-- ==== Sys2Proof/Word.lean ====
section
/-! DEFINITION. The plainest types of the ZS24: bytes, zone and group numbers, sets of zones and
groups, and the small operand types that the commands of Syntax.lean carry. An instant is a natural
number of units of 10 µs (the unit of R2) since the model's clock began. -/

namespace Sys2Proof

/-- One byte of the serial line. -/
abbrev Byte := BitVec 8

/-- A two-byte field of a payload (a tag, a handle, a current). -/
abbrev Half := BitVec 16

/-- A zone number, Z0 to Z23. -/
abbrev ZoneId := Fin 24

/-- A group number, G0 to G3. -/
abbrev GroupId := Fin 4

/-- A set of zones: bit z stands for Z(z), as on the serial line (R194). -/
abbrev ZoneSet := BitVec 24

/-- A set of groups: bit g stands for G(g) (R194). -/
abbrev GroupSet := BitVec 4

/-- The parts of a request frame that every request carries beside its own fields (R177), and the
instant at which the frame is complete. -/
structure Header where
  /-- the instant at which the frame is complete -/
  time : Nat
  /-- CTRL bits 3-0: the request number -/
  num : BitVec 4
  /-- SEQ: the host's acknowledgement -/
  ack : Byte
  deriving DecidableEq, Repr

/-- A raw input line that the group contactor controller debounces (R123). -/
inductive RawLine where
  | ka (g : GroupId)
  | stop
  deriving DecidableEq, Repr

/-- The blocks that take a zero crossing or a frame boundary (Table 1-3). A crossing command names
the order in which they take it, where the rules allow either order (R65, R66, R71, R92, R96). -/
inductive Taker where
  | switchStage
  | supervision
  | contactors
  | planner
  | zoneTable
  deriving DecidableEq, Repr

/-- The level of the two strap inputs BAUD1 and BAUD0 at a reset (R175). -/
structure Straps where
  baud1 : Bool
  baud0 : Bool
  deriving DecidableEq, Repr

end Sys2Proof
end

