-- ==== Sys2Proof/Syntax.lean ====
section
/-! DEFINITION. The commands of the ZS24, one constructor per row of spec/opcode_table.json, in the
table's order. The lines sampled at a happening are its operands (notes/assumptions/19.md). No row has
bits in the table, so the operands are the spec's own: a happening
carries what its block reads from outside at it, a request carries its frame's header and its fields
as the bytes and two-byte values of Table 11-4, in payload order and not yet range-checked. -/

namespace Sys2Proof

/-- A command: one happening at the part, or one request frame. -/
inductive Instr where
  /-- POWER_ON (R147, R172): the supply is applied, with the straps as they stand. -/
  | powerOn (time : Nat) (straps : Straps)
  /-- PIN_RESET (R154, R172): RESET is asserted. -/
  | pinReset (time : Nat) (straps : Straps)
  /-- ZX_EDGE (R2): an edge on ZX at `time`; `order` is the order in which the blocks take a zero
  crossing that it makes. -/
  | zxEdge (time : Nat) (order : List Taker)
  /-- WINDOW_EXPIRY (R8): the window of 12.5 ms runs out. -/
  | windowExpiry (order : List Taker)
  /-- MID_HALF_CYCLE_POINT (R9): the point of the present half-cycle, with the CS lines as they
  stand at it, and whether the contactor controller takes it before supervision. -/
  | midHalfCyclePoint (cs : ZoneSet) (contactorsFirst : Bool)
  /-- ISENSE_READING (R112): the next reading of the supply current, 0 to 4095. -/
  | isenseReading (value : BitVec 12)
  /-- AUX_CHANGE (R123): the KA line of a group has stayed changed for 4 ms. -/
  | auxChange (g : GroupId)
  /-- STOP_CHANGE (R137): the STOP line has stayed changed for 4 ms. -/
  | stopChange
  /-- CLOSE_TIMER_EXPIRY (R126). -/
  | closeTimerExpiry (g : GroupId)
  /-- RELEASE_DEADLINE_EXPIRY (R128). -/
  | releaseDeadlineExpiry (g : GroupId)
  /-- OPEN_TIMER_EXPIRY (R129). -/
  | openTimerExpiry (g : GroupId)
  /-- VERIFY_TIMER_EXPIRY (R140). -/
  | verifyTimerExpiry (g : GroupId)
  /-- STUCK_CONTACT_TIMER_EXPIRY (R131). -/
  | stuckContactTimerExpiry (g : GroupId)
  /-- RX_BYTE (R176): a byte on RXD, with a good stop bit or a stop-bit error. -/
  | rxByte (time : Nat) (byte : Byte) (stopOk : Bool)
  /-- BYTE_GAP_TIMEOUT (R176). -/
  | byteGapTimeout
  /-- TX_FRAME_END (R182, R184): the frame on TXD ends. -/
  | txFrameEnd (time : Nat)
  /-- RETRANSMIT_TIMER_EXPIRY (R185). -/
  | retransmitTimerExpiry
  /-- NOP (R187). -/
  | nop (hd : Header)
  /-- IDENTIFY (R187). -/
  | identify (hd : Header)
  /-- LINK_SYNC (R186). -/
  | linkSync (hd : Header)
  /-- SET_LINK_TIMING (R188). -/
  | setLinkTiming (hd : Header) (interval : Half)
  /-- QUERY_LINK (R189). -/
  | queryLink (hd : Header)
  /-- SET_SUBSCRIPTION (R170). -/
  | setSubscription (hd : Header) (mask : Byte)
  /-- QUERY_REPORT_STATUS (R171). -/
  | queryReportStatus (hd : Header)
  /-- SET_FRAME (R13). -/
  | setFrame (hd : Header) (len : Byte)
  /-- QUERY_MAINS (R14). -/
  | queryMains (hd : Header)
  /-- CONFIG_ZONE (R19). -/
  | configZone (hd : Header) (zone group : Byte) (current : Half)
      (prio offset lease fallback openLimit stuckLimit : Byte)
  /-- ENABLE_ZONE (R20). -/
  | enableZone (hd : Header) (zone : Byte)
  /-- DISABLE_ZONE (R21). -/
  | disableZone (hd : Header) (zone : Byte)
  /-- SET_DEMAND (R22). -/
  | setDemand (hd : Header) (zone demand : Byte)
  /-- CLEAR_ZONE (R36, R37). -/
  | clearZone (hd : Header) (zone : Byte)
  /-- QUERY_ZONE (R38). -/
  | queryZone (hd : Header) (zone : Byte)
  /-- QUEUE_ORDER (R44). -/
  | queueOrder (hd : Header) (zone : Byte) (tag total : Half) (cap : Byte)
  /-- ABORT_ORDER (R50). -/
  | abortOrder (hd : Header) (zone : Byte) (tag : Half)
  /-- QUERY_ORDERS (R58). -/
  | queryOrders (hd : Header) (zone : Byte)
  /-- SET_LIMITS (R79). -/
  | setLimits (hd : Header) (supply g0 g1 g2 g3 : Half)
  /-- QUERY_PLAN (R85). -/
  | queryPlan (hd : Header) (zone : Byte)
  /-- QUERY_FRAME_SUMMARY (R86). -/
  | queryFrameSummary (hd : Header)
  /-- QUERY_TALLY (R99). -/
  | queryTally (hd : Header) (zone : Byte)
  /-- CLEAR_TALLY (R100). -/
  | clearTally (hd : Header) (selector : Byte)
  /-- SET_SUPERVISION (R118). -/
  | setSupervision (hd : Header) (leak : Byte) (offset : Half) (percent limit : Byte)
  /-- QUERY_SUPERVISION (R120). -/
  | querySupervision (hd : Header)
  /-- CLOSE_GROUP (R125). -/
  | closeGroup (hd : Header) (group : Byte)
  /-- OPEN_GROUP (R127). -/
  | openGroup (hd : Header) (group : Byte)
  /-- ACK_TRIP (R141). -/
  | ackTrip (hd : Header) (group : Byte)
  /-- TRIP_ALL (R136). -/
  | tripAll (hd : Header)
  /-- SET_CONTACTOR_TIMING (R144). -/
  | setContactorTiming (hd : Header) (close opening verify : Half)
  /-- QUERY_GROUPS (R145). -/
  | queryGroups (hd : Header)
  /-- READ_TRIP_RECORD (R155). -/
  | readTripRecord (hd : Header) (number : Half)
  /-- RELEASE_TRIP_RECORD (R156). -/
  | releaseTripRecord (hd : Header) (number : Half)
  /-- QUERY_TRIP_STORE (R157). -/
  | queryTripStore (hd : Header)
  /-- RAW_INPUT_CHANGE (R123): a raw KA or STOP line takes a level (closed or asserted when true). -/
  | rawInputChange (time : Nat) (line : RawLine) (level : Bool)
  deriving DecidableEq, Repr

end Sys2Proof
end

