-- ==== Sys2Proof/Decode.lean ====
section
/-! DEFINITION. The command that a word of the opcode table spells. No row of spec/opcode_table.json gives
bits, so no word spells a command; what a request frame's bytes spell is read by Machine/Operands.lean. -/

namespace Sys2Proof

/-- None for every word: the table gives no row any bits (notes/assumptions/23.md). -/
def decodeTableWord (_nbits _w : Nat) : Option Instr := none

end Sys2Proof
end

