-- ==== Sys2Proof/Config.lean ====
section
/-! DEFINITION. The fixed dimensions and durations of the part, each with the rule that gives it.
Durations are in units of 10 µs. The spec leaves no value open that a command computes with, so
there is no free value here (notes/assumptions/1.md). -/

namespace Sys2Proof.Config

/-- One millisecond in units of 10 µs. -/
def unitsPerMs : Nat := 100

/-- R2, Table 1-2: an interval below this is a glitch. -/
def shortestValid : Nat := 700

/-- R2, R8: an interval above this is long; the window of 12.5 ms. -/
def window : Nat := 1250

/-- R5: valid intervals that lock the mains, and the depth of the interval history (R6). -/
def lockRun : Nat := 8

/-- R123: the debounce time of 4 ms. -/
def debounce : Nat := 400

/-- R176: the byte gap of 5 ms. -/
def byteGap : Nat := 500

/-- R112: ISENSE is read every 100 µs. -/
def isensePeriod : Nat := 10

/-- R124, R128: the release deadline of 12.5 ms. -/
def releaseDeadline : Nat := 1250

/-- R42: the most orders one zone's queue holds. -/
def queueDepth : Nat := 4

/-- R158, R159: the most entries the report queue holds. -/
def reportDepth : Nat := 48

/-- R159, R165: the most entries that are sent and unacknowledged. -/
def reportWindow : Nat := 4

/-- R147: the trip record slots. -/
def tripSlots : Nat := 8

/-- R187: the family code of the IDENTIFY reply. -/
def familyCode : Nat := 0x0E24

/-- R187: the revision of the IDENTIFY reply. -/
def revision : Nat := 1

end Sys2Proof.Config
end

