-- ==== Sys2Proof/Machine/Bytes.lean ====
section
/-! DEFINITION. Byte order, masks, the CRC and the frame of the serial line (R176, R194, Table 11-1). -/

namespace Sys2Proof.Machine

/-- A number in `n` bytes, little-endian (R194). -/
def leBytes : Nat → Nat → List Byte
  | 0, _ => []
  | n + 1, v => BitVec.ofNat 8 v :: leBytes n (v / 256)

/-- The number that little-endian bytes carry (R194). -/
def leValue : List Byte → Nat
  | [] => 0
  | b :: bs => b.toNat + 256 * leValue bs

/-- A flag, a mark or another two-state value in one byte (Table 11-7). -/
def flagByte (b : Bool) : Byte := if b then 1 else 0

/-- A zone-set mask of 3 bytes (R194). -/
def zoneSetBytes (m : ZoneSet) : List Byte := leBytes 3 m.toNat

/-- A set of groups in one byte, bits 7-4 zero (R194). -/
def groupSetByte (m : GroupSet) : Byte := BitVec.ofNat 8 m.toNat

/-- The mask of a set of slot indices, bit h standing for slot h (R194). -/
def slotMask : List Nat → BitVec 128
  | [] => 0
  | h :: hs => (1#128 <<< h) ||| slotMask hs

/-- A slot-set mask of 16 bytes (R194). -/
def slotSetBytes (hs : List Nat) : List Byte := leBytes 16 (slotMask hs).toNat

/-- One bit of the CRC: polynomial 0x1021, most significant bit first (R176). -/
def crcShift (c : BitVec 16) : BitVec 16 :=
  if c.msb then (c <<< 1) ^^^ 0x1021 else c <<< 1

/-- One byte entering the CRC, most significant bit first, no reflection (R176). -/
def crcByte (c : BitVec 16) (b : Byte) : BitVec 16 :=
  let c0 := c ^^^ (b.zeroExtend 16 <<< 8)
  crcShift (crcShift (crcShift (crcShift (crcShift (crcShift (crcShift (crcShift c0)))))))

/-- The CRC-16 over some bytes: initial value 0xFFFF, no final inversion (R176). -/
def crc16 (bs : List Byte) : BitVec 16 := bs.foldl crcByte 0xFFFF

/-- The SYNC byte (R176). -/
def syncByte : Byte := 0xC5

/-- The bytes of a frame from LEN to the last payload byte, over which the CRC is taken (R176). -/
def frameCore (ctrl seq type : Byte) (payload : List Byte) : List Byte :=
  BitVec.ofNat 8 (payload.length + 3) :: ctrl :: seq :: type :: payload

/-- A whole frame: SYNC, LEN, CTRL, SEQ, TYPE, payload, CRC low byte first (Table 11-1). -/
def frameBytes (ctrl seq type : Byte) (payload : List Byte) : List Byte :=
  let core := frameCore ctrl seq type payload
  syncByte :: (core ++ leBytes 2 (crc16 core).toNat)

end Sys2Proof.Machine
end

