-- ==== Sys2Proof/Machine/State.lean ====
section
/-! DEFINITION. The state of the ZS24, block by block, as plain data, its fault and refusal reasons,
and the state right after reset. Each field's docstring names the rule or table that gives it. Fields
marked "the model's own" are listed as such in INVENTORY.md. -/

namespace Sys2Proof.Machine

/-! ### Outcomes -/

/-- Reasons for a fault. There is none: the spec stops the part nowhere, and every command of every
state has an effect (or does nothing, because its happening cannot come) (notes/assumptions/1.md). -/
inductive Fault where
  deriving DecidableEq, Repr

/-- Reasons for a refusal. -/
inductive Refusal where
  /-- Raised by exec's arm of a command that has no meaning yet; safe. No arm raises it. -/
  | notModelled (mnemonic : String)
  deriving DecidableEq, Repr

/-! ### Mains timing unit (Chapter 1) -/

/-- Mains state (Table 1-1). -/
inductive MainsState where
  | searching
  | locked
  | lost
  deriving DecidableEq, Repr

/-- State of the mains timing unit (R1, Table 1-1). -/
structure Mtu where
  /-- mains state -/
  state : MainsState
  /-- reference time, or none -/
  refTime : Option Nat
  /-- interval history, oldest first -/
  history : List Nat
  /-- measured period, units of 10 µs -/
  period : Nat
  /-- run count -/
  run : Nat
  /-- coast flag -/
  coast : Bool
  /-- glitch count -/
  glitches : Nat
  /-- coast count -/
  coasts : Nat
  /-- half-cycle index h -/
  h : Nat
  /-- frame length L -/
  len : Nat
  /-- pending L -/
  pendingLen : Nat
  /-- frame number -/
  frame : BitVec 32
  /-- the model's own: the instant of the mid-half-cycle point still to come (R9), or none -/
  midDue : Option Nat
  deriving DecidableEq, Repr

/-! ### Zone table (Chapter 2) -/

/-- Zone state (Table 2-3). -/
inductive ZoneState where
  | disabled
  | idle
  | demand
  | dosing
  | faulted
  | locked
  deriving DecidableEq, Repr

/-- Configuration fields of a zone record (Table 2-1). -/
structure ZoneConfig where
  group : GroupId
  /-- nominal current, units of 0.1 A -/
  current : Nat
  /-- priority class -/
  prio : Fin 4
  /-- phase offset -/
  offset : Nat
  /-- lease, frames -/
  lease : Nat
  /-- fallback demand -/
  fallback : Nat
  /-- open-load limit -/
  openLimit : Nat
  /-- stuck-on limit -/
  stuckLimit : Nat
  deriving DecidableEq, Repr

/-- A zone record (R16). -/
structure Zone where
  cfg : ZoneConfig
  state : ZoneState
  /-- configured flag -/
  configured : Bool
  /-- continuous demand -/
  demand : Nat
  /-- lease remaining -/
  leaseLeft : Nat
  deriving DecidableEq, Repr

/-! ### Order unit (Chapter 3) -/

/-- Halt reasons (Table 3-1). -/
inductive HaltReason where
  | aborted
  | zoneDisabled
  | zoneFault
  | zoneLocked
  | groupOpened
  | groupTrip
  | mainsLoss
  deriving DecidableEq, Repr

/-- Order state (Table 3-2). The halt reason is present in HALTING and absent otherwise (R41). -/
inductive OrderState where
  | queued
  | planned
  | active
  | halting (reason : HaltReason)
  deriving DecidableEq, Repr

/-- An order record (R41, Table 3-1). -/
structure Order where
  tag : Half
  handle : Half
  total : Nat
  cap : Nat
  fired : Nat
  remaining : Nat
  state : OrderState
  deriving DecidableEq, Repr

/-- State of the order unit (R40). -/
structure OrderUnit where
  /-- one queue per zone, head first -/
  queues : Vector (List Order) 24
  /-- handle counter -/
  counter : Half
  deriving DecidableEq, Repr

/-! ### Frame planner (Chapter 4) -/

/-- A supply limit and four group limits, units of 0.1 A (Table 4-1). -/
structure Limits where
  supply : Nat
  group : Vector Nat 4
  deriving DecidableEq, Repr

/-- A zone's source in a plan (R63). -/
inductive Source where
  | none
  | continuous
  | order (handle : Half)
  deriving DecidableEq, Repr

/-- One zone's entry in a plan record (R63). -/
structure Entry where
  source : Source
  requested : Nat
  granted : Nat
  /-- slot set, in the order of placement -/
  slots : List Nat
  /-- placed current -/
  current : Nat
  /-- placed group -/
  group : GroupId
  deriving DecidableEq, Repr

/-- The sums of one slot of a plan (R63). -/
structure SlotSum where
  supply : Nat
  group : Vector Nat 4
  deriving DecidableEq, Repr

/-- A plan record (R63). -/
structure Plan where
  frame : BitVec 32
  len : Nat
  limits : Limits
  entries : Vector Entry 24
  /-- one for each slot 0 to L-1 -/
  sums : List SlotSum
  deriving DecidableEq, Repr

/-- One zone's part of the frame summary (R68). -/
structure SummaryEntry where
  source : Source
  requested : Nat
  granted : Nat
  deriving DecidableEq, Repr

/-- The frame summary (Table 4-1, R68). -/
structure Summary where
  frame : BitVec 32
  len : Nat
  limits : Limits
  zones : Vector SummaryEntry 24
  governs : Bool
  deriving DecidableEq, Repr

/-- State of the frame planner (R62, Table 4-1). -/
structure Planner where
  /-- pending limits -/
  pendingLimits : Limits
  /-- limits in force -/
  limits : Limits
  /-- plan under construction -/
  building : Option Plan
  /-- committed plan -/
  committed : Option Plan
  summary : Summary
  /-- curtailed tallies -/
  curtailed : Vector Nat 24
  deriving DecidableEq, Repr

/-! ### Switch stage (Chapter 5) -/

/-- Status of a drive record (Table 5-5). -/
inductive RecordStatus where
  | opened
  | closed
  | cutShort
  deriving DecidableEq, Repr

/-- A drive record (R95, Table 5-5). -/
structure DriveRecord where
  frame : BitVec 32
  h : Nat
  /-- kind: true when a synthetic zero crossing began the half-cycle -/
  synthetic : Bool
  /-- drive set -/
  set : ZoneSet
  /-- drive current -/
  current : Nat
  status : RecordStatus
  deriving DecidableEq, Repr

/-- State of the switch stage (R88, Table 5-1). -/
structure SwitchStage where
  /-- drive lines DRV0-DRV23 -/
  lines : ZoneSet
  /-- present drive record -/
  present : Option DriveRecord
  /-- previous drive record -/
  previous : Option DriveRecord
  /-- fired tallies -/
  fired : Vector Nat 24
  deriving DecidableEq, Repr

/-! ### Supervision unit (Chapter 6) -/

/-- The conduction sample (R102). -/
structure Sample where
  frame : BitVec 32
  h : Nat
  /-- conducting set -/
  set : ZoneSet
  deriving DecidableEq, Repr

/-- The last supply check (Table 6-1). -/
structure SupplyCheck where
  frame : BitVec 32
  h : Nat
  /-- expected current e -/
  expected : Nat
  /-- measured current m -/
  measured : Nat
  /-- outcome: true for a mismatch -/
  mismatch : Bool
  deriving DecidableEq, Repr

/-- State of the supervision unit (R101, Table 6-1). -/
structure Supervision where
  leak : Nat
  /-- supply offset -/
  offset : Nat
  /-- supply percent -/
  percent : Nat
  /-- supply limit -/
  limit : Nat
  openScores : Vector Nat 24
  stuckScores : Vector Nat 24
  supplyScore : Nat
  openChecked : ZoneSet
  openFailed : ZoneSet
  stuckChecked : ZoneSet
  stuckFailed : ZoneSet
  supplyChecked : Bool
  supplyFailed : Bool
  /-- conduction sample, or none -/
  sample : Option Sample
  /-- current accumulation: the readings since the present drive record was opened, newest first -/
  readings : List Nat
  /-- the model's own: the instant at which the accumulation began (R112) -/
  readingsFrom : Nat
  /-- last supply check, or none -/
  lastCheck : Option SupplyCheck
  deriving DecidableEq, Repr

/-! ### Group contactor controller (Chapter 7) -/

/-- Group state (Table 7-3). -/
inductive GroupState where
  | opened
  | closing
  | closed
  | opening
  | tripping
  | tripped
  | welded
  deriving DecidableEq, Repr

/-- The kinds of group timer (Table 7-2). -/
inductive TimerKind where
  | stuckContact
  | close
  | release
  | opening
  | verify
  deriving DecidableEq, Repr

/-- A running group timer, with its expiry instant (R124). -/
structure Timer where
  kind : TimerKind
  expiry : Nat
  deriving DecidableEq, Repr

/-- One group's record (Table 7-1). -/
structure Group where
  state : GroupState
  /-- coil output KC: true when asserted -/
  coil : Bool
  /-- aux input, debounced: true when closed -/
  aux : Bool
  /-- release pending -/
  releasePending : Bool
  timer : Option Timer
  /-- current record number, 0 when there is none -/
  record : Half
  /-- raw KA line: true when it shows closed (R123) -/
  rawAux : Bool
  /-- the instant at which the raw KA line departed from the debounced state, or none (R123) -/
  rawAuxSince : Option Nat
  deriving DecidableEq, Repr

/-- State of the group contactor controller (R122, Table 7-1). -/
structure Contactors where
  groups : Vector Group 4
  /-- close timeout, ms -/
  closeTimeout : Nat
  /-- open timeout, ms -/
  openTimeout : Nat
  /-- verify window, ms -/
  verifyWindow : Nat
  /-- master-trip latch; drives MTRIP -/
  masterTrip : Bool
  /-- STOP state, debounced -/
  stop : Bool
  /-- raw STOP line (R123) -/
  rawStop : Bool
  /-- the instant at which the raw STOP line departed from the debounced state, or none -/
  rawStopSince : Option Nat
  deriving DecidableEq, Repr

/-! ### Trip record store (Chapter 8) -/

/-- Causes of a trip record (Table 8-2, Table 7-6). -/
inductive TripCause where
  | zoneStuckOn
  | supplyFault
  | externalStop
  | host
  | dropout
  | masterTrip
  | groupWeld
  deriving DecidableEq, Repr

/-- Outcome of one group in a trip record; `notInSet` for a group outside the group set. -/
inductive GroupOutcome where
  | notInSet
  | pending
  | cleared
  | welded
  | unverified
  deriving DecidableEq, Repr

/-- A locked zone with its two scores (Table 8-2). -/
structure LockedZone where
  zone : ZoneId
  openScore : Nat
  stuckScore : Nat
  deriving DecidableEq, Repr

/-- A trip record (R148, Table 8-2). -/
structure TripRecord where
  number : Half
  cause : TripCause
  /-- group set -/
  groups : GroupSet
  /-- locked-zone set with the zone scores, in the order of entry -/
  lockedZones : List LockedZone
  /-- position: frame number -/
  frame : BitVec 32
  /-- position: h -/
  h : Nat
  /-- position: mains state -/
  mains : MainsState
  /-- drive snapshot, or absent -/
  drive : Option DriveRecord
  /-- supply snapshot, or absent -/
  supply : Option SupplyCheck
  /-- conduction snapshot, or absent -/
  conduction : Option Sample
  /-- aux states at creation -/
  aux : GroupSet
  outcomes : Vector GroupOutcome 4
  released : Bool
  deriving DecidableEq, Repr

/-- State of the trip record store (R147, Table 8-1): the filled slots, in creation order. -/
structure TripStore where
  records : List TripRecord
  /-- next record number -/
  next : Half
  /-- records-lost count -/
  lost : Nat
  deriving DecidableEq, Repr

/-! ### Reports (Chapter 9) -/

/-- Reset cause of STARTUP (R172). -/
inductive ResetCause where
  | powerOn
  | pin
  deriving DecidableEq, Repr

/-- Score kind (R106). -/
inductive ScoreKind where
  | openLoad
  | stuckOn
  deriving DecidableEq, Repr

/-- Weld cause (R142). -/
inductive WeldCause where
  | openTimeout
  | verifyTimeout
  | auxStuck
  deriving DecidableEq, Repr

/-- A curtailed zone in CURTAILED (R83). -/
structure CurtailedZone where
  zone : ZoneId
  requested : Nat
  granted : Nat
  deriving DecidableEq, Repr

/-- A report, with its fields (Table 9-1 and the chapter that originates it). -/
inductive Report where
  | startup (cause : ResetCause) (retained : Nat)
  | reportsLost (count : Nat)
  | mainsLocked (period : Nat) (frame : BitVec 32)
  | mainsLost (frame : BitVec 32) (h : Nat) (halted : Nat)
  | leaseLapsed (zone : ZoneId) (fallback : Nat)
  | zoneFaulted (zone : ZoneId)
  | zoneLocked (zone : ZoneId) (group : GroupId) (record : Half)
  | orderStarted (zone : ZoneId) (tag : Half) (frame : BitVec 32)
  | orderDone (zone : ZoneId) (tag : Half) (total : Nat)
  | orderHalted (zone : ZoneId) (tag : Half) (reason : HaltReason) (fired remaining : Nat)
  | curtailed (frame : BitVec 32) (zones : List CurtailedZone)
  | zoneSuspect (zone : ZoneId) (kind : ScoreKind) (score : Nat)
  | zoneCleared (zone : ZoneId) (kind : ScoreKind)
  | supplySuspect (measured expected score : Nat)
  | supplyCleared
  | groupClosed (group : GroupId)
  | groupOpened (group : GroupId)
  | groupCloseFailed (group : GroupId)
  | groupVerified (group : GroupId) (record : Half)
  | groupTripped (groups : GroupSet) (cause : TripCause) (record : Half)
  | groupWelded (group : GroupId) (cause : WeldCause) (record : Half)
  deriving DecidableEq, Repr

/-- An entry of the report queue (R159). Its critical mark is that of its report's kind. -/
structure QueueEntry where
  report : Report
  seq : Byte
  /-- delivery state: true when sent-unacknowledged -/
  sent : Bool
  /-- ever-sent mark -/
  everSent : Bool
  deriving DecidableEq, Repr

/-- State of the report queue (R158, Table 9-3). -/
structure ReportQueue where
  /-- oldest first -/
  entries : List QueueEntry
  /-- next sequence number -/
  nextSeq : Byte
  /-- subscription mask, bit n for class n of Table 9-2 -/
  mask : BitVec 6
  /-- lost-pending count -/
  lostPending : Nat
  /-- lost total -/
  lostTotal : Nat
  /-- generated counter -/
  generated : BitVec 32
  /-- acknowledged counter -/
  acknowledged : BitVec 32
  /-- lost counter -/
  lost : BitVec 32
  /-- ALERT output -/
  alert : Bool
  deriving DecidableEq, Repr

/-! ### Host link controller (Chapter 10) -/

/-- Line rate (R175). -/
inductive LineRate where
  | r57600
  | r115200
  | r230400
  | r460800
  deriving DecidableEq, Repr

/-- Receiver state (R176). -/
inductive RxState where
  | hunting
  | header
  | body
  | check
  deriving DecidableEq, Repr

/-- The receiver, with the bytes of the frame being assembled, SYNC first, and the byte-gap timer's
expiry instant (Table 10-1). -/
structure Receiver where
  state : RxState
  bytes : List Byte
  gap : Option Nat
  deriving DecidableEq, Repr

/-- Result codes (R192, Table 11-6). -/
inductive ResultCode where
  | ok
  | unknownRequest
  | badLength
  | range
  | wrongState
  | notConfigured
  | ordersPending
  | queueFull
  | duplicateTag
  | notFound
  | groupsActive
  | zonesActive
  | zoneLocked
  | groupNotOpen
  | masterTripped
  | stopActive
  | recordPending
  deriving DecidableEq, Repr

/-- A stored reply: request number, type, result code and fields (Table 10-1). -/
structure Reply where
  num : BitVec 4
  type : Byte
  result : ResultCode
  fields : List Byte
  deriving DecidableEq, Repr

/-- The transmitter, with the frame on TXD, whose contents are fixed when it is taken (R182). -/
inductive Transmitter where
  | idle
  | reply (frame : List Byte)
  | report (frame : List Byte)
  deriving DecidableEq, Repr

/-- The twelve link counters (Table 10-2). -/
structure LinkCounters where
  framesReceived : Nat
  framing : Nat
  length : Nat
  crc : Nat
  control : Nat
  busyDrop : Nat
  duplicate : Nat
  ackRange : Nat
  retransmit : Nat
  executed : Nat
  repliesSent : Nat
  reportsSent : Nat
  deriving DecidableEq, Repr

/-- State of the host link controller (R174, Table 10-1). -/
structure Link where
  rate : LineRate
  rx : Receiver
  /-- last request number -/
  lastNum : Option (BitVec 4)
  /-- stored reply -/
  stored : Option Reply
  replyPending : Bool
  tx : Transmitter
  /-- retransmit interval, ms -/
  interval : Nat
  /-- retransmit timer's expiry instant, or none when stopped -/
  retransmitAt : Option Nat
  counters : LinkCounters
  deriving DecidableEq, Repr

/-! ### The whole part -/

/-- The state of the ZS24 and the commands waiting for it. -/
structure State where
  /-- the model's own: the present instant, units of 10 µs -/
  now : Nat
  mtu : Mtu
  zones : Vector Zone 24
  orders : OrderUnit
  planner : Planner
  switch : SwitchStage
  sup : Supervision
  gcc : Contactors
  store : TripStore
  reports : ReportQueue
  link : Link
  /-- the commands that are waiting, first in, first out -/
  pending : List Instr
  deriving DecidableEq, Repr

/-! ### Reset values -/

/-- R1, Table 1-1. -/
def Mtu.reset : Mtu :=
  { state := .searching, refTime := none, history := [], period := 0, run := 0, coast := false,
    glitches := 0, coasts := 0, h := 0, len := 32, pendingLen := 32, frame := 0, midDue := none }

/-- R16, Tables 2-1 and 2-2: the phase offset is the zone's own number. -/
def Zone.reset (z : ZoneId) : Zone :=
  { cfg := { group := 0, current := 10, prio := 3, offset := z.val, lease := 0, fallback := 0,
             openLimit := 3, stuckLimit := 2 },
    state := .disabled, configured := false, demand := 0, leaseLeft := 0 }

/-- R40. -/
def OrderUnit.reset : OrderUnit :=
  { queues := Vector.ofFn fun _ => [], counter := 0 }

/-- Limits of 0 (R62). -/
def Limits.zero : Limits :=
  { supply := 0, group := Vector.ofFn fun _ => 0 }

/-- R62, Table 4-1. -/
def Planner.reset : Planner :=
  { pendingLimits := .zero, limits := .zero, building := none, committed := none,
    summary := { frame := 0, len := 32, limits := .zero,
                 zones := Vector.ofFn fun _ => { source := .none, requested := 0, granted := 0 },
                 governs := false },
    curtailed := Vector.ofFn fun _ => 0 }

/-- R88, Table 5-1. -/
def SwitchStage.reset : SwitchStage :=
  { lines := 0, present := none, previous := none, fired := Vector.ofFn fun _ => 0 }

/-- R101, Table 6-1; `now` is the instant of the reset. -/
def Supervision.reset (now : Nat) : Supervision :=
  { leak := 1, offset := 20, percent := 10, limit := 4,
    openScores := Vector.ofFn fun _ => 0, stuckScores := Vector.ofFn fun _ => 0, supplyScore := 0,
    openChecked := 0, openFailed := 0, stuckChecked := 0, stuckFailed := 0,
    supplyChecked := false, supplyFailed := false, sample := none, readings := [],
    readingsFrom := now, lastCheck := none }

/-- R122, R123: the raw line keeps its level and is judged against the reset value, aux open. -/
def Group.reset (now : Nat) (rawAux : Bool) : Group :=
  { state := .opened, coil := false, aux := false, releasePending := false, timer := none,
    record := 0, rawAux := rawAux, rawAuxSince := if rawAux then some now else none }

/-- R122, R123, Table 7-1. -/
def Contactors.reset (now : Nat) (rawAux : Vector Bool 4) (rawStop : Bool) : Contactors :=
  { groups := Vector.ofFn fun g => Group.reset now rawAux[g],
    closeTimeout := 150, openTimeout := 150, verifyWindow := 200, masterTrip := false,
    stop := false, rawStop := rawStop, rawStopSince := if rawStop then some now else none }

/-- R147, Table 8-1, power-on. -/
def TripStore.powerOn : TripStore :=
  { records := [], next := 1, lost := 0 }

/-- R158, Table 9-3, before STARTUP enters. -/
def ReportQueue.empty : ReportQueue :=
  { entries := [], nextSeq := 0, mask := BitVec.allOnes 6, lostPending := 0, lostTotal := 0,
    generated := 0, acknowledged := 0, lost := 0, alert := false }

/-- R175. -/
def LineRate.ofStraps (b : Straps) : LineRate :=
  match b.baud1, b.baud0 with
  | false, false => .r57600
  | false, true => .r115200
  | true, false => .r230400
  | true, true => .r460800

/-- R174, Table 10-2: all counters 0. -/
def LinkCounters.zero : LinkCounters :=
  { framesReceived := 0, framing := 0, length := 0, crc := 0, control := 0, busyDrop := 0,
    duplicate := 0, ackRange := 0, retransmit := 0, executed := 0, repliesSent := 0,
    reportsSent := 0 }

/-- R174, Table 10-1, with the line rate of the straps. -/
def Link.reset (b : Straps) : Link :=
  { rate := .ofStraps b, rx := { state := .hunting, bytes := [], gap := none }, lastNum := none,
    stored := none, replyPending := false, tx := .idle, interval := 50, retransmitAt := none,
    counters := .zero }

/-- Every block but the trip record store at its reset values, the report queue still without
STARTUP; the store, the raw lines and the waiting commands are given. -/
def State.blank (now : Nat) (b : Straps) (rawAux : Vector Bool 4) (rawStop : Bool)
    (store : TripStore) (pending : List Instr) : State :=
  { now := now, mtu := .reset, zones := Vector.ofFn Zone.reset, orders := .reset,
    planner := .reset, switch := .reset, sup := .reset now,
    gcc := .reset now rawAux rawStop, store := store, reports := .empty, link := .reset b,
    pending := pending }

/-- The report frame of STARTUP (POWER_ON, 0 records) with sequence number 0, as R183 and R194 lay it
out: CTRL bit 6, SEQ 0, TYPE 0x81, then the reset cause and the number of trip records. -/
def startupFrame : List Byte :=
  frameBytes 0x40 0 0x81 [0, 0]

/-- The machine right after power-on (R172): every block at its power-on values, STARTUP in the
queue with sequence number 0 and on the line, since an idle transmitter takes it at once (R182).
Lines: straps 00, KA lines open, STOP deasserted (DESIGN CHOICE, notes/assumptions/8.md). -/
def State.reset : State :=
  let s := State.blank 0 { baud1 := false, baud0 := false } (Vector.ofFn fun _ => false) false
    .powerOn []
  { s with
    reports := { s.reports with
      entries := [{ report := .startup .powerOn 0, seq := 0, sent := true, everSent := true }],
      nextSeq := 1, generated := 1, alert := true },
    link := { s.link with
      tx := .report startupFrame,
      counters := { s.link.counters with reportsSent := 1 } } }

end Sys2Proof.Machine
end

