-- ==== Sys2Proof/Machine/Codes.lean ====
section
/-! DEFINITION. The codes of enumerated values (R192 Table 11-6, R193 Table 11-7) and of report kinds
(R190 Table 11-3), with each report's class and criticality (Tables 9-1 and 9-2). -/

namespace Sys2Proof.Machine

def ResultCode.code : ResultCode → Byte
  | .ok => 0
  | .unknownRequest => 1
  | .badLength => 2
  | .range => 3
  | .wrongState => 4
  | .notConfigured => 5
  | .ordersPending => 6
  | .queueFull => 7
  | .duplicateTag => 8
  | .notFound => 9
  | .groupsActive => 10
  | .zonesActive => 11
  | .zoneLocked => 12
  | .groupNotOpen => 13
  | .masterTripped => 14
  | .stopActive => 15
  | .recordPending => 16

def TripCause.code : TripCause → Byte
  | .zoneStuckOn => 1
  | .supplyFault => 2
  | .externalStop => 3
  | .host => 4
  | .dropout => 5
  | .masterTrip => 6
  | .groupWeld => 7

def WeldCause.code : WeldCause → Byte
  | .openTimeout => 1
  | .verifyTimeout => 2
  | .auxStuck => 3

def HaltReason.code : HaltReason → Byte
  | .aborted => 1
  | .zoneDisabled => 2
  | .zoneFault => 3
  | .zoneLocked => 4
  | .groupOpened => 5
  | .groupTrip => 6
  | .mainsLoss => 7

def GroupOutcome.code : GroupOutcome → Byte
  | .notInSet => 0
  | .pending => 1
  | .cleared => 2
  | .welded => 3
  | .unverified => 4

def MainsState.code : MainsState → Byte
  | .searching => 0
  | .locked => 1
  | .lost => 2

def RecordStatus.code : RecordStatus → Byte
  | .opened => 0
  | .closed => 1
  | .cutShort => 2

def ZoneState.code : ZoneState → Byte
  | .disabled => 0
  | .idle => 1
  | .demand => 2
  | .dosing => 3
  | .faulted => 4
  | .locked => 5

def OrderState.code : OrderState → Byte
  | .queued => 0
  | .planned => 1
  | .active => 2
  | .halting _ => 3

/-- The halt reason as QUERY_ORDERS shows it: NONE (0) outside HALTING (R58). -/
def OrderState.reasonCode : OrderState → Byte
  | .halting r => r.code
  | _ => 0

def GroupState.code : GroupState → Byte
  | .opened => 0
  | .closing => 1
  | .closed => 2
  | .opening => 3
  | .tripping => 4
  | .tripped => 5
  | .welded => 6

def ScoreKind.code : ScoreKind → Byte
  | .openLoad => 0
  | .stuckOn => 1

def ResetCause.code : ResetCause → Byte
  | .powerOn => 0
  | .pin => 1

/-- A plan source: kind byte, then a handle of 2 bytes, 0 when there is none (R194). -/
def Source.bytes : Source → List Byte
  | .none => [0, 0, 0]
  | .continuous => [1, 0, 0]
  | .order h => 2 :: leBytes 2 h.toNat

/-- The line rate in bit/s (R175). -/
def LineRate.bitsPerSecond : LineRate → Nat
  | .r57600 => 57600
  | .r115200 => 115200
  | .r230400 => 230400
  | .r460800 => 460800

/-- The type code of a report (Table 11-3). -/
def Report.typeCode : Report → Byte
  | .startup .. => 0x81
  | .reportsLost .. => 0x82
  | .mainsLocked .. => 0x83
  | .mainsLost .. => 0x84
  | .leaseLapsed .. => 0x85
  | .zoneFaulted .. => 0x86
  | .zoneLocked .. => 0x87
  | .orderStarted .. => 0x88
  | .orderDone .. => 0x89
  | .orderHalted .. => 0x8A
  | .curtailed .. => 0x8B
  | .zoneSuspect .. => 0x8C
  | .zoneCleared .. => 0x8D
  | .supplySuspect .. => 0x8E
  | .supplyCleared => 0x8F
  | .groupClosed .. => 0x90
  | .groupOpened .. => 0x91
  | .groupCloseFailed .. => 0x92
  | .groupVerified .. => 0x93
  | .groupTripped .. => 0x94
  | .groupWelded .. => 0x95

/-- The class of a report as a bit of the subscription mask; none for the system class (Tables 9-1
and 9-2). -/
def Report.classBit : Report → Option Nat
  | .startup .. => none
  | .reportsLost .. => none
  | .mainsLocked .. => some 0
  | .mainsLost .. => some 0
  | .leaseLapsed .. => some 1
  | .zoneFaulted .. => some 1
  | .zoneLocked .. => some 1
  | .orderStarted .. => some 2
  | .orderDone .. => some 2
  | .orderHalted .. => some 2
  | .curtailed .. => some 3
  | .zoneSuspect .. => some 4
  | .zoneCleared .. => some 4
  | .supplySuspect .. => some 4
  | .supplyCleared => some 4
  | .groupClosed .. => some 5
  | .groupOpened .. => some 5
  | .groupCloseFailed .. => some 5
  | .groupVerified .. => some 5
  | .groupTripped .. => some 5
  | .groupWelded .. => some 5

/-- The critical kinds (Table 9-1). -/
def Report.critical : Report → Bool
  | .startup .. => true
  | .reportsLost .. => true
  | .mainsLost .. => true
  | .zoneFaulted .. => true
  | .zoneLocked .. => true
  | .groupTripped .. => true
  | .groupWelded .. => true
  | .mainsLocked .. => false
  | .leaseLapsed .. => false
  | .orderStarted .. => false
  | .orderDone .. => false
  | .orderHalted .. => false
  | .curtailed .. => false
  | .zoneSuspect .. => false
  | .zoneCleared .. => false
  | .supplySuspect .. => false
  | .supplyCleared => false
  | .groupClosed .. => false
  | .groupOpened .. => false
  | .groupCloseFailed .. => false
  | .groupVerified .. => false

/-- A zone number in one byte. -/
def zoneByte (z : ZoneId) : Byte := BitVec.ofNat 8 z.val

/-- A group number in one byte. -/
def groupByte (g : GroupId) : Byte := BitVec.ofNat 8 g.val

/-- One entry of CURTAILED (Table 11-9). -/
def CurtailedZone.bytes (c : CurtailedZone) : List Byte :=
  [zoneByte c.zone, BitVec.ofNat 8 c.requested, BitVec.ofNat 8 c.granted]

/-- The payload of a report (R194, Tables 11-8 and 11-9). -/
def Report.payload : Report → List Byte
  | .startup c n => [c.code, BitVec.ofNat 8 n]
  | .reportsLost n => leBytes 2 n
  | .mainsLocked p f => leBytes 2 p ++ leBytes 4 f.toNat
  | .mainsLost f h n => leBytes 4 f.toNat ++ [BitVec.ofNat 8 h, BitVec.ofNat 8 n]
  | .leaseLapsed z d => [zoneByte z, BitVec.ofNat 8 d]
  | .zoneFaulted z => [zoneByte z]
  | .zoneLocked z g r => [zoneByte z, groupByte g] ++ leBytes 2 r.toNat
  | .orderStarted z t f => [zoneByte z] ++ leBytes 2 t.toNat ++ leBytes 4 f.toNat
  | .orderDone z t n => [zoneByte z] ++ leBytes 2 t.toNat ++ leBytes 2 n
  | .orderHalted z t r f m =>
      [zoneByte z] ++ leBytes 2 t.toNat ++ [r.code] ++ leBytes 2 f ++ leBytes 2 m
  | .curtailed f zs => leBytes 4 f.toNat ++ [BitVec.ofNat 8 zs.length] ++ zs.flatMap (·.bytes)
  | .zoneSuspect z k n => [zoneByte z, k.code, BitVec.ofNat 8 n]
  | .zoneCleared z k => [zoneByte z, k.code]
  | .supplySuspect m e n => leBytes 2 m ++ leBytes 2 e ++ [BitVec.ofNat 8 n]
  | .supplyCleared => []
  | .groupClosed g => [groupByte g]
  | .groupOpened g => [groupByte g]
  | .groupCloseFailed g => [groupByte g]
  | .groupVerified g r => [groupByte g] ++ leBytes 2 r.toNat
  | .groupTripped gs c r => [groupSetByte gs, c.code] ++ leBytes 2 r.toNat
  | .groupWelded g c r => [groupByte g, c.code] ++ leBytes 2 r.toNat

end Sys2Proof.Machine
end

