-- ==== Sys2Proof/Machine/Ops.lean ====
section
/-! DEFINITION. The named operations that every block uses: the clock, saturating counts, sets of
zones and groups, and reading and writing one zone, one order queue and one group. -/

namespace Sys2Proof.Machine

/-! ### The clock -/

/-- The state at the instant `t`. Time does not run backwards: a command of an earlier instant is taken
at the present one (DESIGN CHOICE, notes/assumptions/2.md). -/
def State.atTime (s : State) (t : Nat) : State := { s with now := max s.now t }

/-- The instant `ms` milliseconds from now. -/
def State.afterMs (s : State) (ms : Nat) : Nat := s.now + ms * Config.unitsPerMs

/-! ### Counts that stop at a bound -/

/-- `n + k`, stopping at `bound`. -/
def satAdd (bound n k : Nat) : Nat := min bound (n + k)

/-- The bound of a 16-bit saturating count. -/
def max16 : Nat := 65535

/-- The bound of a 32-bit saturating count. -/
def max32 : Nat := 4294967295

/-! ### Sets and folds -/

/-- The set of the zones for which `p` holds. -/
def zoneSet (p : ZoneId → Bool) : ZoneSet := BitVec.ofFnLE p

/-- The set of the groups for which `p` holds. -/
def groupSet (p : GroupId → Bool) : GroupSet := BitVec.ofFnLE p

/-- Membership of a zone in a set. -/
def inZones (m : ZoneSet) (z : ZoneId) : Bool := m.getLsbD z.val

/-- Membership of a group in a set. -/
def inGroups (m : GroupSet) (g : GroupId) : Bool := m.getLsbD g.val

/-- A set of zones with one zone added. -/
def addZone (m : ZoneSet) (z : ZoneId) : ZoneSet := zoneSet fun y => y == z || inZones m y

/-- All zones, in ascending number. -/
def allZones : List ZoneId := List.finRange 24

/-- All groups, in ascending number. -/
def allGroups : List GroupId := List.finRange 4

/-- Does `f` for each zone of a list in turn. -/
def forZones (zs : List ZoneId) (f : ZoneId → State → State) (s : State) : State :=
  zs.foldl (fun s z => f z s) s

/-- Does `f` for each group of a list in turn. -/
def forGroups (gs : List GroupId) (f : GroupId → State → State) (s : State) : State :=
  gs.foldl (fun s g => f g s) s

/-! ### One zone, one queue, one group -/

/-- The record of a zone. -/
def State.zone (s : State) (z : ZoneId) : Zone := s.zones[z]

/-- Writes the record of a zone. -/
def State.setZone (s : State) (z : ZoneId) (v : Zone) : State :=
  { s with zones := s.zones.set z.val v z.isLt }

/-- The order queue of a zone, head first. -/
def State.queue (s : State) (z : ZoneId) : List Order := s.orders.queues[z]

/-- Writes the order queue of a zone. -/
def State.setQueue (s : State) (z : ZoneId) (q : List Order) : State :=
  { s with orders := { s.orders with queues := s.orders.queues.set z.val q z.isLt } }

/-- The record of a group. -/
def State.group (s : State) (g : GroupId) : Group := s.gcc.groups[g]

/-- Writes the record of a group. -/
def State.setGroup (s : State) (g : GroupId) (v : Group) : State :=
  { s with gcc := { s.gcc with groups := s.gcc.groups.set g.val v g.isLt } }

/-- Writes the records of all groups at once. -/
def State.mapGroups (s : State) (f : GroupId → Group → Group) : State :=
  { s with gcc := { s.gcc with groups := Vector.ofFn fun g => f g (s.group g) } }

/-- The group that a zone's group field names, as it stands (R16). -/
def State.groupOf (s : State) (z : ZoneId) : Group := s.group (s.zone z).cfg.group

/-- The zones of group g: those whose group field holds g now (R16). -/
def State.zonesOf (s : State) (g : GroupId) : List ZoneId :=
  allZones.filter fun z => (s.zone z).cfg.group == g

/-- The mains is LOCKED. -/
def State.isLocked (s : State) : Bool := s.mtu.state == .locked

/-- Sets a zone's state with its continuous demand and lease remaining 0 (R18). -/
def State.restZone (s : State) (z : ZoneId) (st : ZoneState) : State :=
  s.setZone z { s.zone z with state := st, demand := 0, leaseLeft := 0 }

/-- The order unit tells the zone table that a zone's last order has gone: a DOSING zone enters IDLE,
and in any other state nothing changes (R28). -/
def State.lastOrderGone (s : State) (z : ZoneId) : State :=
  if (s.zone z).state = .dosing then s.setZone z { s.zone z with state := .idle } else s

/-- Writes a zone's queue after removals, with the notice of R28 when that empties it. -/
def State.shrinkQueue (s : State) (z : ZoneId) (q : List Order) : State :=
  if q.isEmpty && !(s.queue z).isEmpty then (s.setQueue z q).lastOrderGone z
  else s.setQueue z q

end Sys2Proof.Machine
end

