-- ==== Sys2Proof/Machine/Flags.lean ====
section
/-! DEFINITION. The levels of the output pins (Table 0-2), each read from the one item of state that
drives it, and the counts that replies show beside them. -/

namespace Sys2Proof.Machine

/-- DRV0-DRV23 (R93). -/
def State.drv (s : State) (z : ZoneId) : Bool := inZones s.switch.lines z

/-- KC0-KC3 (Table 7-1). -/
def State.kc (s : State) (g : GroupId) : Bool := (s.group g).coil

/-- MTRIP: asserted while the master-trip latch is set (R143). -/
def State.mtrip (s : State) : Bool := s.gcc.masterTrip

/-- ALERT (R169). -/
def State.alertPin (s : State) : Bool := s.reports.alert

/-- The frame on TXD, none while TXD rests at the stop level (R175, R182). -/
def State.txd (s : State) : Option (List Byte) :=
  match s.link.tx with
  | .idle => none
  | .reply f => some f
  | .report f => some f

/-- The number of sent-unacknowledged entries (R171). -/
def ReportQueue.sentCount (q : ReportQueue) : Nat := q.entries.countP fun e => e.sent

/-- The number of unsent entries (R171). -/
def ReportQueue.unsentCount (q : ReportQueue) : Nat := q.entries.countP fun e => !e.sent

/-- The retransmit timer is running (R189). -/
def Link.retransmitRunning (l : Link) : Bool := l.retransmitAt.isSome

end Sys2Proof.Machine
end

