-- ==== Sys2Proof/Machine/Reports.lean ====
section
/-! DEFINITION. The report queue (Chapter 9): submission, entry, overflow, eviction, sending,
acknowledgement, return and LINK_SYNC. -/

namespace Sys2Proof.Machine

/-- R160: is a submitted report generated? -/
def ReportQueue.generates (q : ReportQueue) (r : Report) : Bool :=
  r.critical ||
    match r.classBit with
    | none => true
    | some n => q.mask.getLsbD n

/-- R161: a report enters at the tail, unsent, with the next sequence number. -/
def ReportQueue.enter (q : ReportQueue) (r : Report) : ReportQueue :=
  { q with
    entries := q.entries ++ [{ report := r, seq := q.nextSeq, sent := false, everSent := false }],
    nextSeq := q.nextSeq + 1,
    alert := q.alert || q.entries.isEmpty }

/-- R162, R163: one report lost. -/
def ReportQueue.countLost (q : ReportQueue) : ReportQueue :=
  { q with
    lostPending := satAdd max16 q.lostPending 1,
    lostTotal := satAdd max32 q.lostTotal 1,
    lost := q.lost + 1 }

/-- R163: an entry that an eviction may take: ordinary and never sent. -/
def QueueEntry.evictable (e : QueueEntry) : Bool := !e.report.critical && !e.everSent

/-- R163: the entries without the newest evictable one, those behind it one number lower; none when
no entry can be evicted. -/
def evictNewest : List QueueEntry → Option (List QueueEntry)
  | [] => none
  | e :: es =>
    match evictNewest es with
    | some es' => some (e :: es')
    | none => if e.evictable then some (es.map fun x => { x with seq := x.seq - 1 }) else none

/-- R160 to R163: a generated report enters, evicts or is dropped. -/
def ReportQueue.place (q : ReportQueue) (r : Report) : ReportQueue :=
  if q.entries.length < Config.reportDepth then q.enter r
  else if r.critical then
    match evictNewest q.entries with
    | some es => ({ q with entries := es, nextSeq := q.nextSeq - 1 }.countLost).enter r
    | none => q.countLost
  else q.countLost

/-- R160: the generated counter is raised, then the report is placed. -/
def ReportQueue.generate (q : ReportQueue) (r : Report) : ReportQueue :=
  { q with generated := q.generated + 1 }.place r

/-- R160: a block submits a report to the queue. -/
def ReportQueue.offer (q : ReportQueue) (r : Report) : ReportQueue :=
  if q.generates r then q.generate r else q

/-- R160: a block submits a report. -/
def submit (r : Report) (s : State) : State := { s with reports := s.reports.offer r }

/-! ### Acknowledgement (R166, R178) -/

/-- R178: the high end of the range, the number of the oldest entry never sent, or the next sequence
number. -/
def ReportQueue.ackHigh (q : ReportQueue) : Byte :=
  match q.entries.find? (fun e => !e.everSent) with
  | some e => e.seq
  | none => q.nextSeq

/-- R178: the low end of the range, the number of the oldest ever-sent entry, or the high end when no
entry has been sent. -/
def ReportQueue.ackLow (q : ReportQueue) : Byte :=
  match q.entries.find? (fun e => e.everSent) with
  | some e => e.seq
  | none => q.ackHigh

/-- R178: the acknowledgement does not pass the high end, counted forward from the low end mod 256. -/
def ReportQueue.ackInRange (q : ReportQueue) (a : Byte) : Bool :=
  (a - q.ackLow).toNat ≤ (q.ackHigh - q.ackLow).toNat

/-- R164: places became free in a full queue with reports lost since the last REPORTS_LOST. -/
def ReportQueue.reportLoss (q : ReportQueue) : ReportQueue :=
  { q.generate (.reportsLost q.lostPending) with lostPending := 0 }

/-- R166: removes the `n` oldest entries as acknowledged, with REPORTS_LOST when that frees places in
a full queue that has lost reports (R164) and ALERT deasserted when none is left (R169). -/
def ReportQueue.removeOldest (q : ReportQueue) (n : Nat) : ReportQueue :=
  let wasFull := q.entries.length ≥ Config.reportDepth
  let es := q.entries.drop n
  let q1 := { q with
    entries := es,
    acknowledged := q.acknowledged + BitVec.ofNat 32 (q.entries.length - es.length),
    alert := q.alert && !(es.isEmpty && !q.entries.isEmpty) }
  if wasFull && es.length < q.entries.length && 0 < q1.lostPending then q1.reportLoss else q1

/-- The number of entries an in-range acknowledgement removes (R166). -/
def ReportQueue.ackCount (q : ReportQueue) (a : Byte) : Nat := (a - q.ackLow).toNat

/-! ### Sending and return (R165, R167) -/

/-- R165: the oldest unsent entry and the entries with it sent-unacknowledged and marked ever-sent. -/
def takeOldestUnsent : List QueueEntry → Option (QueueEntry × List QueueEntry)
  | [] => none
  | e :: es =>
    if e.sent then
      match takeOldestUnsent es with
      | some (x, es') => some (x, e :: es')
      | none => none
    else some (e, { e with sent := true, everSent := true } :: es)

/-- R165, R182: the report the transmitter takes, only while fewer than 4 are sent-unacknowledged. -/
def ReportQueue.takeReport (q : ReportQueue) : Option (QueueEntry × ReportQueue) :=
  if q.sentCount < Config.reportWindow then
    match takeOldestUnsent q.entries with
    | some (e, es) => some (e, { q with entries := es })
    | none => none
  else none

/-- R167: every sent-unacknowledged entry becomes unsent, keeping place, number and ever-sent mark. -/
def ReportQueue.returnSent (q : ReportQueue) : ReportQueue :=
  { q with entries := q.entries.map fun e => { e with sent := false } }

/-! ### LINK_SYNC (R173) -/

/-- R173 step 1: the discarded count. -/
def ReportQueue.discardedCount (q : ReportQueue) : Nat := q.entries.length + q.lostPending

/-- R173 steps 2 to 4. -/
def ReportQueue.linkSync (q : ReportQueue) : ReportQueue :=
  { q with
    entries := [], nextSeq := 0, lostPending := 0,
    lostTotal := satAdd max32 q.lostTotal q.entries.length,
    generated := 0, acknowledged := 0, lost := 0, alert := false }

end Sys2Proof.Machine
end

