-- ==== Sys2Proof/Machine/Orders.lean ====
section
/-! DEFINITION. The order unit (Chapter 3): handles, halts for a cause, mains loss, fired claims,
completion and confirmation. -/

namespace Sys2Proof.Machine

/-! ### Handles (R43) -/

/-- The handles that a plan names as sources. -/
def Plan.sources (p : Plan) : List Half :=
  p.entries.toList.filterMap fun e =>
    match e.source with
    | .order h => some h
    | _ => none

/-- The handles that a held plan, if any, names as sources. -/
def sourcesOf : Option Plan → List Half
  | some p => p.sources
  | none => []

/-- R43: the handles in use: of every held order, and of every source of the committed plan and of
the plan under construction (DEDUCED, notes/assumptions/12.md). -/
def State.heldHandles (s : State) : List Half :=
  s.orders.queues.toList.flatMap (fun q => q.map (·.handle)) ++
    sourcesOf s.planner.committed ++ sourcesOf s.planner.building

/-- R43: the first value from `h` on that is not held, within `fuel` steps. -/
def freeHandle (held : List Half) : Nat → Half → Half
  | 0, h => h
  | fuel + 1, h => if held.contains h then freeHandle held fuel (h + 1) else h

/-- R43: the handle the next accepted order takes; one of 145 successive values is free. -/
def State.nextHandle (s : State) : Half := freeHandle s.heldHandles 145 s.orders.counter

/-! ### Reading orders -/

/-- The order is HALTING. -/
def Order.isHalting (o : Order) : Bool :=
  match o.state with
  | .halting _ => true
  | _ => false

/-- The order can be fired when it is the head: PLANNED or ACTIVE (Table 3-2). -/
def Order.firable (o : Order) : Bool :=
  match o.state with
  | .planned => true
  | .active => true
  | _ => false

/-! ### Halts for a cause (R52, R55) -/

/-- R52, Table 3-5: an order removed at once for a cause reports fired 0 and remaining its total. -/
def haltAtOnce (z : ZoneId) (reason : HaltReason) (o : Order) (s : State) : State :=
  submit (.orderHalted z o.tag reason 0 o.total) s

/-- R52: the orders of a list, all removed at once, from the head to the tail. -/
def haltAllAtOnce (z : ZoneId) (reason : HaltReason) : List Order → State → State
  | [], s => s
  | o :: os, s => haltAllAtOnce z reason os (haltAtOnce z reason o s)

/-- R52: the zone table asks the order unit to halt every order of a zone. Answers the state and the
number of orders halted, not counting a head that was already HALTING. -/
def haltZoneOrders (z : ZoneId) (reason : HaltReason) (s : State) : State × Nat :=
  match s.queue z with
  | [] => (s, 0)
  | o :: os =>
    match o.state with
    | .halting _ => ((haltAllAtOnce z reason os s).shrinkQueue z [o], os.length)
    | .queued => ((haltAllAtOnce z reason (o :: os) s).shrinkQueue z [], os.length + 1)
    | .planned =>
      ((haltAllAtOnce z reason os s).shrinkQueue z [{ o with state := .halting reason }],
        os.length + 1)
    | .active =>
      ((haltAllAtOnce z reason os s).shrinkQueue z [{ o with state := .halting reason }],
        os.length + 1)

/-- R55: the report of an order at a mains loss: a HALTING order's with its own reason, another's with
MAINS_LOSS, both with the counts held. -/
def lossReport (z : ZoneId) (o : Order) : Report :=
  match o.state with
  | .halting r => .orderHalted z o.tag r o.fired o.remaining
  | _ => .orderHalted z o.tag .mainsLoss o.fired o.remaining

/-- R55: the reports of one queue at a mains loss, head to tail. -/
def lossReports (z : ZoneId) : List Order → State → State
  | [], s => s
  | o :: os, s => lossReports z os (submit (lossReport z o) s)

/-- R55: one queue at a mains loss. -/
def loseQueue (z : ZoneId) (s : State) : State :=
  (lossReports z (s.queue z) s).shrinkQueue z []

/-- R55: the number of orders halted with reason MAINS_LOSS. -/
def State.lossCount (s : State) : Nat :=
  (s.orders.queues.toList.map fun q => q.countP fun o => !o.isHalting).sum

/-- R55: every order of every queue, Z0 to Z23. -/
def loseAllOrders (s : State) : State := forZones allZones loseQueue s

/-! ### Zero crossings (R46 to R49, R53) -/

/-- R47: the head after one fired half-cycle. -/
def Order.fire (o : Order) : Order :=
  { o with fired := o.fired + 1, remaining := o.remaining - 1, state := .active }

/-- R47, R49: the fired claim of a zone's head, in the frame `n`: ORDER_STARTED at the first, and
ORDER_DONE with the removal when remaining reaches 0. -/
def fireHead (z : ZoneId) (n : BitVec 32) (s : State) : State :=
  match s.queue z with
  | [] => s
  | o :: os =>
    let s1 := if o.state = .planned then submit (.orderStarted z o.tag n) s else s
    if o.fire.remaining = 0 then (submit (.orderDone z o.tag o.total) s1).shrinkQueue z os
    else s1.setQueue z (o.fire :: os)

/-- R53: ORDER_HALTED for each HALTING order of a list. -/
def confirmReports (z : ZoneId) : List Order → State → State
  | [], s => s
  | o :: os, s =>
    match o.state with
    | .halting r => confirmReports z os (submit (.orderHalted z o.tag r o.fired o.remaining) s)
    | _ => confirmReports z os s

/-- R53: every HALTING order of a zone's queue is reported and removed. -/
def confirmHalts (z : ZoneId) (s : State) : State :=
  (confirmReports z (s.queue z) s).shrinkQueue z ((s.queue z).filter fun o => !o.isHalting)

end Sys2Proof.Machine
end

