-- ==== Sys2Proof/Machine/Zones.lean ====
section
/-! DEFINITION. The zone table (Chapter 2), less what needs the contactor controller: score resets,
halts, group withdrawal, mains loss and the leases. -/

namespace Sys2Proof.Machine

/-- R108: the supervision unit sets both scores of a zone to 0, with no report. -/
def zeroScores (z : ZoneId) (s : State) : State :=
  { s with sup := { s.sup with
      openScores := s.sup.openScores.set z.val 0 z.isLt,
      stuckScores := s.sup.stuckScores.set z.val 0 z.isLt } }

/-- R108, R35: the open-load score alone. -/
def zeroOpenScore (z : ZoneId) (s : State) : State :=
  { s with sup := { s.sup with openScores := s.sup.openScores.set z.val 0 z.isLt } }

/-- R29: the zone table sets a zone's new state, zeroes its demand and lease, then halts its orders. -/
def leaveService (z : ZoneId) (st : ZoneState) (reason : HaltReason) (s : State) : State × Nat :=
  haltZoneOrders z reason (s.restZone z st)

/-- The zone is in DEMAND or DOSING. -/
def Zone.wants (v : Zone) : Bool := v.state == .demand || v.state == .dosing

/-- R30: one zone at its group's withdrawal. -/
def withdrawZone (reason : HaltReason) (z : ZoneId) (s : State) : State :=
  if (s.zone z).wants then (leaveService z .idle reason s).1 else s

/-- R30: a group's withdrawal notice: its zones in DEMAND or DOSING enter IDLE and their orders are
halted, in ascending zone number (DESIGN CHOICE, notes/assumptions/13.md). -/
def withdrawGroup (g : GroupId) (reason : HaltReason) (s : State) : State :=
  forZones (s.zonesOf g) (withdrawZone reason) s

/-- R31: one zone at a mains loss. -/
def idleAtLoss (z : ZoneId) (s : State) : State :=
  if (s.zone z).wants then s.restZone z .idle else s

/-- R31: the zone table at a mains loss. -/
def zonesAtLoss (s : State) : State := forZones allZones idleAtLoss s

/-- R26: a demand above the new L becomes the new L. -/
def reduceDemand (len : Nat) (z : ZoneId) (s : State) : State :=
  if (s.zone z).state = .demand ∧ len < (s.zone z).demand then
    s.setZone z { s.zone z with demand := len }
  else s

/-- R24: a lapsed lease: the fallback in force replaces the demand, and LEASE_LAPSED is submitted. -/
def lapseLease (len : Nat) (z : ZoneId) (s : State) : State :=
  let v := s.zone z
  let d := min v.cfg.fallback len
  let st := if d = 0 then ZoneState.idle else ZoneState.demand
  submit (.leaseLapsed z d) (s.setZone z { v with state := st, demand := d, leaseLeft := 0 })

/-- R23: one zone's lease at a frame boundary. -/
def runDownLease (len : Nat) (z : ZoneId) (s : State) : State :=
  let v := s.zone z
  if v.state = .demand ∧ 0 < v.leaseLeft then
    if v.leaseLeft = 1 then lapseLease len z s
    else s.setZone z { v with leaseLeft := v.leaseLeft - 1 }
  else s

/-- R23, R24, R26: the zone table at a frame boundary that begins a frame of length `len`. -/
def zonesAtBoundary (len : Nat) (lChanged : Bool) (s : State) : State :=
  let s1 := if lChanged then forZones allZones (reduceDemand len) s else s
  forZones allZones (runDownLease len) s1

end Sys2Proof.Machine
end

