-- ==== Sys2Proof/Machine/TripStore.lean ====
section
/-! DEFINITION. The trip record store (Chapter 8): numbering, making a record, outcomes, additions and
the change at a pin reset. The slots are held as the list of the held records in creation order
(notes/assumptions/14.md). -/

namespace Sys2Proof.Machine

/-- R148: a record is PENDING while the outcome of any group is PENDING. -/
def TripRecord.isPending (r : TripRecord) : Bool := allGroups.any fun g => r.outcomes[g] == .pending

/-- R151: a record that a new one may take the slot of: released and resolved. -/
def TripRecord.replaceable (r : TripRecord) : Bool := r.released && !r.isPending

/-- R150: the number after `n`, from 65535 to 1. -/
def nextNumber (n : Half) : Half := if n = 0xFFFF then 1 else n + 1

/-- R150: the first number from `n` on that no held record carries, within `fuel` steps. -/
def freeNumber (held : List Half) : Nat → Half → Half
  | 0, n => n
  | fuel + 1, n => if held.contains n then freeNumber held fuel (nextNumber n) else n

/-- The held record of a number. -/
def TripStore.find (t : TripStore) (n : Half) : Option TripRecord :=
  t.records.find? fun r => r.number == n

/-- R150: the number of the next record stored; a free one is found within 9 steps. -/
def TripStore.newNumber (t : TripStore) : Half :=
  freeNumber (t.records.map (·.number)) 9 t.next

/-- The list without its first replaceable record, and that record's number (R151 step 2). -/
def dropReplaceable : List TripRecord → Option (Half × List TripRecord)
  | [] => none
  | r :: rs =>
    if r.replaceable then some (r.number, rs)
    else
      match dropReplaceable rs with
      | some (n, rs') => some (n, r :: rs')
      | none => none

/-- R150, R151: writes a new record into a free slot. Answers the store and the number. -/
def TripStore.write (t : TripStore) (r : TripRecord) : TripStore × Half :=
  let n := t.newNumber
  ({ t with records := t.records ++ [{ r with number := n }], next := nextNumber n }, n)

/-- R151: a new record takes an empty slot, or the oldest released and resolved record's, or none.
The number is chosen while the record it replaces is no longer held (DEDUCED,
notes/assumptions/26.md). Answers the store, the number returned, and the number of the discarded
record. -/
def TripStore.create (t : TripStore) (r : TripRecord) : TripStore × Half × Option Half :=
  if t.records.length < Config.tripSlots then
    let (t', n) := t.write r
    (t', n, none)
  else
    match dropReplaceable t.records with
    | some (old, rs) =>
      let (t', n) := { t with records := rs }.write r
      (t', n, some old)
    | none => ({ t with lost := satAdd max16 t.lost 1 }, 0, none)

/-- Changes the held record of a number. -/
def TripStore.update (t : TripStore) (n : Half) (f : TripRecord → TripRecord) : TripStore :=
  { t with records := t.records.map fun r => if r.number = n then f r else r }

/-- R152: sets a group's PENDING outcome in a record. -/
def TripRecord.setOutcome (r : TripRecord) (g : GroupId) (o : GroupOutcome) : TripRecord :=
  if r.outcomes[g] = .pending then { r with outcomes := r.outcomes.set g.val o g.isLt } else r

/-- R152: the GCC names a record and a group. -/
def TripStore.setOutcome (t : TripStore) (n : Half) (g : GroupId) (o : GroupOutcome) : TripStore :=
  t.update n fun r => r.setOutcome g o

/-- R153: adds a locked zone with its scores to a record. -/
def TripStore.addLocked (t : TripStore) (n : Half) (z : LockedZone) : TripStore :=
  t.update n fun r => { r with lockedZones := r.lockedZones ++ [z] }

/-- R154: a PENDING outcome becomes UNVERIFIED. -/
def GroupOutcome.atPinReset : GroupOutcome → GroupOutcome
  | .pending => .unverified
  | .notInSet => .notInSet
  | .cleared => .cleared
  | .welded => .welded
  | .unverified => .unverified

/-- R154: the store at a pin reset. -/
def TripStore.pinReset (t : TripStore) : TripStore :=
  { t with records := t.records.map fun r =>
      { r with outcomes := Vector.ofFn fun g => (r.outcomes[g]).atPinReset } }

end Sys2Proof.Machine
end

