-- ==== Sys2Proof/Machine/Contactors.lean ====
section
/-! DEFINITION. The group contactor controller (Chapter 7): timers, records, trips, verification,
welds, opening and the handling of aux changes. -/

namespace Sys2Proof.Machine

/-! ### Group timers (R124) -/

/-- A timer of a kind that expires `ms` milliseconds from now. -/
def State.timerMs (s : State) (k : TimerKind) (ms : Nat) : Option Timer :=
  some { kind := k, expiry := s.afterMs ms }

/-- The group's running timer is of this kind. -/
def Group.runs (v : Group) (k : TimerKind) : Bool :=
  match v.timer with
  | some t => t.kind == k
  | none => false

/-- The expiry instant of a group's timer, or now when none runs. -/
def State.expiryOf (s : State) (g : GroupId) : Nat :=
  match (s.group g).timer with
  | some t => t.expiry
  | none => s.now

/-- The command that a group timer of kind `k` expires, taken at the timer's instant; a stopped timer
does not expire (R124; DEDUCED, notes/assumptions/3.md). -/
def onExpiry (g : GroupId) (k : TimerKind) (f : State → State) (s : State) : State :=
  if (s.group g).runs k then f (s.atTime (s.expiryOf g)) else s

/-! ### Records (R133, R142, R149) -/

/-- The snapshot of the power path with which a record is made (R133 step 1, R149): each part as its owner
holds it when the record is made. At a supply latch that supervision raises before the switch stage takes
the crossing, the drive snapshot is the ended half-cycle's record (DEDUCED, notes/assumptions/27.md). -/
def State.newRecord (s : State) (cause : TripCause) (groups : GroupSet)
    (lockedZones : List LockedZone) (outcome : GroupOutcome) : TripRecord :=
  { number := 0, cause := cause, groups := groups, lockedZones := lockedZones,
    frame := s.mtu.frame, h := s.mtu.h, mains := s.mtu.state,
    drive := s.switch.present, supply := s.sup.lastCheck, conduction := s.sup.sample,
    aux := groupSet fun g => (s.group g).aux,
    outcomes := Vector.ofFn fun g => if inGroups groups g then outcome else .notInSet,
    released := false }

/-- R151: the current record number of every group that holds a discarded number becomes 0. -/
def forgetRecord (old : Half) (s : State) : State :=
  s.mapGroups fun _ v => if v.record = old then { v with record := 0 } else v

/-- R133 step 1: asks the store for a record. Answers the state and the number returned. -/
def makeRecord (r : TripRecord) (s : State) : State × Half :=
  match s.store.create r with
  | (t, n, some old) => (forgetRecord old { s with store := t }, n)
  | (t, n, none) => ({ s with store := t }, n)

/-! ### Verification (R138, R139) -/

/-- R138: the group is verified: its aux shows open and, while the mains is LOCKED, a sample exists in
which every configured zone of the group is inactive. -/
def State.verified (s : State) (g : GroupId) : Bool :=
  !(s.group g).aux &&
    (!s.isLocked ||
      match s.sup.sample with
      | none => false
      | some c => (s.zonesOf g).all fun z => !((s.zone z).configured && inZones c.set z))

/-- R139: a verified group leaves TRIPPING for TRIPPED. -/
def verifyGroup (g : GroupId) (s : State) : State :=
  let v := s.group g
  let s1 := s.setGroup g { v with state := .tripped, timer := none }
  let s2 := if v.record = 0 then s1
    else { s1 with store := s1.store.setOutcome v.record g .cleared }
  submit (.groupVerified g v.record) s2

/-- R138: a test of the verification condition of a group, which matters in TRIPPING. -/
def testGroup (g : GroupId) (s : State) : State :=
  if (s.group g).state = .tripping ∧ s.verified g then verifyGroup g s else s

/-! ### Trips (R132 to R135) -/

/-- R132: the states in which a trip affects a group. -/
def GroupState.trippable : GroupState → Bool
  | .closing => true
  | .closed => true
  | .opening => true
  | _ => false

/-- R132: the groups a trip affects, of those named. -/
def State.affected (s : State) (named : GroupId → Bool) : GroupSet :=
  groupSet fun g => named g && (s.group g).state.trippable

/-- The groups of a set, in ascending number. -/
def groupList (m : GroupSet) : List GroupId := allGroups.filter fun g => inGroups m g

/-- R132: an affected group: coil released, release pending cleared, TRIPPING, verify timer. -/
def State.tripGroup (s : State) (v : Group) : Group :=
  { v with state := .tripping, coil := false, releasePending := false,
           timer := s.timerMs .verify s.gcc.verifyWindow }

/-- R132: every affected group at once. -/
def tripGroups (m : GroupSet) (s : State) : State :=
  s.mapGroups fun g v => if inGroups m g then s.tripGroup v else v

/-- R133 step 2: the current record number of the affected groups. -/
def setRecords (m : GroupSet) (n : Half) (s : State) : State :=
  s.mapGroups fun g v => if inGroups m g then { v with record := n } else v

/-- R133 steps 4 and 5: withdrawals, then first tests, each in ascending group number. -/
def afterTrip (m : GroupSet) (s : State) : State :=
  forGroups (groupList m) testGroup
    (forGroups (groupList m) (fun g => withdrawGroup g .groupTrip) s)

/-- R132 to R134: a trip with a cause of the named groups, the locked zones already with their scores.
Answers the state, the set of affected groups and the record number (0 when none is stored, or when
no group is affected). -/
def trip (cause : TripCause) (named : GroupId → Bool) (lockedZones : List LockedZone) (s : State) :
    State × GroupSet × Half :=
  let m := s.affected named
  if m = 0 then (s, 0, 0)
  else
    let s1 := tripGroups m s
    let (s2, n) := makeRecord (s1.newRecord cause m lockedZones .pending) s1
    let s3 := submit (.groupTripped m cause n) (setRecords m n s2)
    (afterTrip m s3, m, n)

/-- A trip of every group (R114, R136, R137). -/
def tripEvery (cause : TripCause) (s : State) : State × GroupSet × Half :=
  trip cause (fun _ => true) [] s

/-- A zone with both its scores, as supervision holds them (R117). -/
def State.lockedZone (s : State) (z : ZoneId) : LockedZone :=
  { zone := z, openScore := s.sup.openScores[z], stuckScore := s.sup.stuckScores[z] }

/-- R135: the zone table's trip request for a stuck-on zone. TRIPPING: the zone is added to the
group's current record. Otherwise a trip under R132. Answers the record number. -/
def stuckOnTrip (z : ZoneId) (s : State) : State × Half :=
  let g := (s.zone z).cfg.group
  let v := s.group g
  if v.state = .tripping then
    if v.record = 0 then (s, 0)
    else ({ s with store := s.store.addLocked v.record (s.lockedZone z) }, v.record)
  else
    let r := trip .zoneStuckOn (fun y => y == g) [s.lockedZone z] s
    (r.1, r.2.2)

/-! ### Welds (R142) -/

/-- R142 steps 1 and 2. -/
def weldGroup (g : GroupId) (s : State) : State :=
  let s1 := s.setGroup g { s.group g with
    state := .welded, coil := false, timer := none, releasePending := false }
  { s1 with gcc := { s1.gcc with masterTrip := true } }

/-- R142 step 3: the record of a weld. -/
def weldRecord (g : GroupId) (cause : WeldCause) (s : State) : State :=
  let v := s.group g
  if cause = .verifyTimeout ∧ v.record ≠ 0 then
    { s with store := s.store.setOutcome v.record g .welded }
  else
    let (s1, n) := makeRecord (s.newRecord .groupWeld (groupSet fun y => y == g) [] .welded) s
    s1.setGroup g { s1.group g with record := n }

/-- R142: a group enters WELDED. -/
def weld (g : GroupId) (cause : WeldCause) (s : State) : State :=
  let s1 := weldRecord g cause (weldGroup g s)
  let s2 := submit (.groupWelded g cause (s1.group g).record) s1
  (trip .masterTrip (fun y => y != g) [] s2).1

/-! ### Opening (R127 to R129) -/

/-- R128: the coil of an OPENING group is released and its open timer starts. -/
def releaseCoil (g : GroupId) (s : State) : State :=
  s.setGroup g { s.group g with
    coil := false, releasePending := false, timer := s.timerMs .opening s.gcc.openTimeout }

/-- R128: a zero crossing, at every OPENING group with release pending. -/
def releaseAtCrossing (g : GroupId) (s : State) : State :=
  if (s.group g).state = .opening ∧ (s.group g).releasePending then releaseCoil g s else s

/-- R128: the contactor controller takes a zero crossing. -/
def contactorsAtCrossing (s : State) : State := forGroups allGroups releaseAtCrossing s

/-- R129: an OPENING group whose aux shows open enters OPEN. -/
def openConfirmed (g : GroupId) (s : State) : State :=
  submit (.groupOpened g) (s.setGroup g { s.group g with
    state := .opened, coil := false, releasePending := false, timer := none })

/-- R129: the aux is tested at entry to OPENING and at every aux change. -/
def testOpening (g : GroupId) (s : State) : State :=
  if (s.group g).state = .opening ∧ !(s.group g).aux then openConfirmed g s else s

/-- R127, R128: a CLOSED group enters OPENING: with release pending while the mains is LOCKED, and
with the coil released at once while it is not. -/
def openFromClosed (g : GroupId) (s : State) : State :=
  let s1 := s.setGroup g { s.group g with state := .opening }
  let s2 :=
    if s.isLocked then
      s1.setGroup g { s1.group g with
        releasePending := true,
        timer := some { kind := .release, expiry := s.now + Config.releaseDeadline } }
    else releaseCoil g s1
  testOpening g (withdrawGroup g .groupOpened s2)

/-- R127: a CLOSING group enters OPENING, its coil released at once. -/
def openFromClosing (g : GroupId) (s : State) : State :=
  let s1 := s.setGroup g { s.group g with state := .opening }
  testOpening g (withdrawGroup g .groupOpened (releaseCoil g s1))

/-! ### Aux changes (R123, R126, R129 to R131, R138) -/

/-- R126: a CLOSING group whose aux shows closed enters CLOSED. -/
def closeConfirmed (g : GroupId) (s : State) : State :=
  submit (.groupClosed g) (s.setGroup g { s.group g with state := .closed, timer := none })

/-- R126: the close timer of a CLOSING group expires. -/
def closeFailed (g : GroupId) (s : State) : State :=
  submit (.groupCloseFailed g) (s.setGroup g { s.group g with
    state := .opened, coil := false, timer := none })

/-- R131: an aux accepted as closed in OPEN or TRIPPED starts the stuck-contact timer, and one that
shows open again stops it. -/
def stuckContact (g : GroupId) (s : State) : State :=
  if (s.group g).aux then
    s.setGroup g { s.group g with timer := s.timerMs .stuckContact s.gcc.verifyWindow }
  else s.setGroup g { s.group g with timer := none }

/-- The rule that owns the group's state handles its changed aux (R123). -/
def auxHandled (g : GroupId) (s : State) : State :=
  match (s.group g).state with
  | .opened => stuckContact g s
  | .tripped => stuckContact g s
  | .closing => if (s.group g).aux then closeConfirmed g s else s
  | .closed => if (s.group g).aux then s else (trip .dropout (fun y => y == g) [] s).1
  | .opening => testOpening g s
  | .tripping => testGroup g s
  | .welded => s

/-- R123: the debounced aux of a group changes, when its raw line has stayed away from it for 4 ms;
without a running count there is no change. -/
def auxChange (g : GroupId) (s : State) : State :=
  match (s.group g).rawAuxSince with
  | none => s
  | some t =>
    let s1 := s.atTime (t + Config.debounce)
    auxHandled g (s1.setGroup g { s1.group g with aux := !(s1.group g).aux, rawAuxSince := none })

/-- R123, R137: the debounced STOP changes; becoming asserted it trips every group. -/
def stopChange (s : State) : State :=
  match s.gcc.rawStopSince with
  | none => s
  | some t =>
    let s1 := s.atTime (t + Config.debounce)
    let s2 := { s1 with gcc := { s1.gcc with stop := !s1.gcc.stop, rawStopSince := none } }
    if s2.gcc.stop then (tripEvery .externalStop s2).1 else s2

/-- R123: the instant from which a raw level has stayed away from a debounced one. -/
def departure (now : Nat) (debounced raw level : Bool) (since : Option Nat) :
    Option Nat :=
  if level = debounced then none else if level = raw then since else some now

/-- R123: a raw KA or STOP line takes a level: departing from its debounced state it starts the 4 ms
count, and returning to it, it ends the count. -/
def rawChange (line : RawLine) (level : Bool) (s : State) : State :=
  match line with
  | .ka g =>
    let v := s.group g
    s.setGroup g { v with
      rawAux := level, rawAuxSince := departure s.now v.aux v.rawAux level v.rawAuxSince }
  | .stop =>
    { s with gcc := { s.gcc with
        rawStop := level,
        rawStopSince := departure s.now s.gcc.stop s.gcc.rawStop level s.gcc.rawStopSince } }

end Sys2Proof.Machine
end

