-- ==== Sys2Proof/Machine/Supervision.lean ====
section
/-! DEFINITION. The supervision unit (Chapter 6): the conduction sample and checks, strikes, the
zone table's latches (R32 to R35), the supply check, the leak and the frame marks. -/

namespace Sys2Proof.Machine

/-! ### Latches at the zone table (R32 to R35) -/

/-- R32, R35: an open-load latch. -/
def openLoadLatch (z : ZoneId) (s : State) : State :=
  match (s.zone z).state with
  | .idle => submit (.zoneFaulted z) (leaveService z .faulted .zoneFault s).1
  | .demand => submit (.zoneFaulted z) (leaveService z .faulted .zoneFault s).1
  | .dosing => submit (.zoneFaulted z) (leaveService z .faulted .zoneFault s).1
  | .disabled => zeroOpenScore z s
  | .faulted => s
  | .locked => s

/-- R33, R34: a stuck-on latch: LOCKED, orders halted, the group's trip asked for, then ZONE_LOCKED
with the record number that came back. -/
def stuckOnLatch (z : ZoneId) (s : State) : State :=
  if (s.zone z).state = .locked then s
  else
    let (s1, n) := stuckOnTrip z (leaveService z .locked .zoneLocked s).1
    submit (.zoneLocked z (s1.zone z).cfg.group n) s1

/-! ### Conduction checks (R102 to R107) -/

/-- R102: the sample of a mid-half-cycle point. -/
def takeSample (cs : ZoneSet) (s : State) : State :=
  { s with sup := { s.sup with sample := some { frame := s.mtu.frame, h := s.mtu.h, set := cs } } }

/-- The outcome of one zone's conduction check, as decided at the point (R103). -/
inductive CheckResult where
  | unchecked
  | openLoad (mismatch : Bool)
  | stuckOn (mismatch : Bool)
  deriving DecidableEq, Repr

/-- The drive set of the present drive record (R103); empty when there is no record. -/
def State.drivenSet (s : State) : ZoneSet :=
  match s.switch.present with
  | some r => r.set
  | none => 0

/-- R103 to R105: the check of one zone, on the sample of CS lines `cs`. -/
def State.check (s : State) (cs : ZoneSet) (z : ZoneId) : CheckResult :=
  if (s.zone z).configured ∧ (s.groupOf z).state = .closed then
    if inZones s.drivenSet z then .openLoad (!inZones cs z) else .stuckOn (inZones cs z)
  else .unchecked

/-- R104: the open-load marks of a checked zone. -/
def markOpen (z : ZoneId) (failed : Bool) (s : State) : State :=
  { s with sup := { s.sup with
      openChecked := addZone s.sup.openChecked z,
      openFailed := if failed then addZone s.sup.openFailed z else s.sup.openFailed } }

/-- R105: the stuck-on marks of a checked zone. -/
def markStuck (z : ZoneId) (failed : Bool) (s : State) : State :=
  { s with sup := { s.sup with
      stuckChecked := addZone s.sup.stuckChecked z,
      stuckFailed := if failed then addZone s.sup.stuckFailed z else s.sup.stuckFailed } }

/-- R106: the report of a score that rises from 0 to 1. -/
def suspect (z : ZoneId) (k : ScoreKind) (before : Nat) (s : State) : State :=
  if before = 0 then submit (.zoneSuspect z k 1) s else s

/-- R106: an open-load strike. A score at its limit is not raised. -/
def openStrike (z : ZoneId) (s : State) : State :=
  let n := s.sup.openScores[z]
  let limit := (s.zone z).cfg.openLimit
  if n < limit then
    let s1 := { s with sup := { s.sup with
      openScores := s.sup.openScores.set z.val (n + 1) z.isLt } }
    let s2 := suspect z .openLoad n s1
    if n + 1 = limit then openLoadLatch z s2 else s2
  else s

/-- R106: a stuck-on strike. -/
def stuckStrike (z : ZoneId) (s : State) : State :=
  let n := s.sup.stuckScores[z]
  let limit := (s.zone z).cfg.stuckLimit
  if n < limit then
    let s1 := { s with sup := { s.sup with
      stuckScores := s.sup.stuckScores.set z.val (n + 1) z.isLt } }
    let s2 := suspect z .stuckOn n s1
    if n + 1 = limit then stuckOnLatch z s2 else s2
  else s

/-- R107 step 3: the outcome of one zone's check. -/
def applyCheck (z : ZoneId) (c : CheckResult) (s : State) : State :=
  match c with
  | .unchecked => s
  | .openLoad m => if m then openStrike z (markOpen z true s) else markOpen z false s
  | .stuckOn m => if m then stuckStrike z (markStuck z true s) else markStuck z false s

/-- R107: all checks are decided first, on the state at the point, then applied in ascending zone
number. -/
def conductionChecks (cs : ZoneSet) (s : State) : State :=
  forZones allZones (fun z => applyCheck z (s.check cs z)) s

/-! ### The supply check (R112 to R114) -/

/-- R112: the measured current of a half-cycle: the mean of its readings, any fraction dropped, 0
without a reading. -/
def meanOf (readings : List Nat) : Nat :=
  if readings.isEmpty then 0 else readings.sum / readings.length

/-- R113: the tolerance for an expected current. -/
def Supervision.tolerance (u : Supervision) (e : Nat) : Nat := u.offset + e * u.percent / 100

/-- R113: a supply mismatch: m exceeds e, or falls short of it, by more than the tolerance. -/
def Supervision.supplyMismatch (u : Supervision) (e m : Nat) : Bool :=
  decide (e + u.tolerance e < m) || decide (m + u.tolerance e < e)

/-- R96: the drive record of a half-cycle, named by frame number and h, from the present or the
previous record. -/
def SwitchStage.recordOf (w : SwitchStage) (frame : BitVec 32) (h : Nat) : Option DriveRecord :=
  match w.present with
  | some r =>
    if r.frame = frame ∧ r.h = h then some r
    else
      match w.previous with
      | some p => if p.frame = frame ∧ p.h = h then some p else none
      | none => none
  | none => none

/-- R114: the supply strike: SUPPLY_SUSPECT when the score rises from 0 to 1. -/
def supplyStrike (m e : Nat) (s : State) : State :=
  let n := s.sup.supplyScore
  let s1 := { s with sup := { s.sup with supplyScore := n + 1, supplyFailed := true } }
  if n = 0 then submit (.supplySuspect m e 1) s1 else s1

/-- R114: a score at or above the limit returns to 0 and asks for a trip of every group. The comparison
follows a strike or a check, not the leak (DEDUCED, notes/assumptions/25.md). -/
def supplyLatch (s : State) : State :=
  if s.sup.limit ≤ s.sup.supplyScore then
    (tripEvery .supplyFault { s with sup := { s.sup with supplyScore := 0 } }).1
  else s

/-- R113, R114: the supply check of a half-cycle with its drive record. -/
def checkSupply (r : DriveRecord) (s : State) : State :=
  let m := meanOf s.sup.readings
  let bad := s.sup.supplyMismatch r.current m
  let s1 := { s with sup := { s.sup with
    supplyChecked := true,
    lastCheck := some { frame := r.frame, h := r.h, expected := r.current, measured := m,
                        mismatch := bad } } }
  supplyLatch (if bad then supplyStrike m r.current s1 else s1)

/-! ### The leak (R110, R111, R115) -/

/-- R111: may a zone's scores leak? -/
def State.leaks (s : State) (z : ZoneId) : Bool :=
  (s.zone z).state != .faulted && (s.zone z).state != .locked

/-- R111: the open-load score of a zone at step 2. -/
def leakOpen (z : ZoneId) (s : State) : State :=
  let n := s.sup.openScores[z]
  if s.leaks z && inZones s.sup.openChecked z && !inZones s.sup.openFailed z then
    let s1 := { s with sup := { s.sup with
      openScores := s.sup.openScores.set z.val (n - s.sup.leak) z.isLt } }
    if 0 < n ∧ n - s.sup.leak = 0 then submit (.zoneCleared z .openLoad) s1 else s1
  else s

/-- R111: the stuck-on score of a zone at step 2. -/
def leakStuck (z : ZoneId) (s : State) : State :=
  let n := s.sup.stuckScores[z]
  if s.leaks z && inZones s.sup.stuckChecked z && !inZones s.sup.stuckFailed z then
    let s1 := { s with sup := { s.sup with
      stuckScores := s.sup.stuckScores.set z.val (n - s.sup.leak) z.isLt } }
    if 0 < n ∧ n - s.sup.leak = 0 then submit (.zoneCleared z .stuckOn) s1 else s1
  else s

/-- R111, R110: a zone's two scores, open-load before stuck-on. -/
def leakZone (z : ZoneId) (s : State) : State := leakStuck z (leakOpen z s)

/-- R115: the supply score at step 2. -/
def leakSupply (s : State) : State :=
  let n := s.sup.supplyScore
  if s.sup.supplyChecked && !s.sup.supplyFailed then
    let s1 := { s with sup := { s.sup with supplyScore := n - s.sup.leak } }
    if 0 < n ∧ n - s.sup.leak = 0 then submit .supplyCleared s1 else s1
  else s

/-- R110 step 3: every frame mark is cleared. -/
def clearMarks (s : State) : State :=
  { s with sup := { s.sup with
      openChecked := 0, openFailed := 0, stuckChecked := 0, stuckFailed := 0,
      supplyChecked := false, supplyFailed := false } }

/-- R110 steps 2 and 3. -/
def leakFrame (s : State) : State := clearMarks (leakSupply (forZones allZones leakZone s))

/-- R112: the accumulation begins anew at a zero crossing. -/
def restartReadings (s : State) : State :=
  { s with sup := { s.sup with readings := [], readingsFrom := s.now } }

/-- R112: one reading, at its instant: 100 µs, 200 µs and so on after the opening zero crossing. While
the mains is not LOCKED none is taken (DEDUCED, notes/assumptions/17.md). -/
def takeReading (value : Nat) (s : State) : State :=
  if s.isLocked then
    let s1 := s.atTime (s.sup.readingsFrom + (s.sup.readings.length + 1) * Config.isensePeriod)
    { s1 with sup := { s1.sup with readings := value :: s1.sup.readings } }
  else s

end Sys2Proof.Machine
end

