-- ==== Sys2Proof/Machine/Planner.lean ====
section
/-! DEFINITION. The frame planner (Chapter 4): reading a plan, placement, the cut and the commit. -/

namespace Sys2Proof.Machine

/-! ### Empty parts -/

/-- An entry that names no source (R64). -/
def Entry.empty (v : ZoneConfig) : Entry :=
  { source := .none, requested := 0, granted := 0, slots := [], current := v.current,
    group := v.group }

/-- The sums of a slot in which no zone is placed. -/
def SlotSum.zero : SlotSum := { supply := 0, group := Vector.ofFn fun _ => 0 }

/-- An empty plan for a frame: no slot and no source (R64, R65). Its limits are those in force, and the
placed current and group of each entry are the zone's present ones (DEDUCED, notes/assumptions/10.md). -/
def State.emptyPlan (s : State) (frame : BitVec 32) (len : Nat) : Plan :=
  { frame := frame, len := len, limits := s.planner.limits,
    entries := Vector.ofFn fun z => Entry.empty (s.zone z).cfg,
    sums := List.replicate len SlotSum.zero }

/-! ### Reading a plan (R64) -/

/-- R64: was the plan built for this frame number and this L? -/
def Plan.isFor (p : Plan) (frame : BitVec 32) (len : Nat) : Bool :=
  p.frame == frame && p.len == len

/-- A held plan, if it was built for this frame number and L (R64). -/
def planIfFor (p : Option Plan) (frame : BitVec 32) (len : Nat) : Option Plan :=
  p.filter fun q => q.isFor frame len

/-- R64: the held plan that governs a frame, none when an empty plan governs it. Before the planner
has taken a boundary, it is the plan under construction (R65). -/
def State.governing (s : State) (frame : BitVec 32) (len : Nat) : Option Plan :=
  (planIfFor s.planner.committed frame len).or (planIfFor s.planner.building frame len)

/-- R64: a zone's entry stands while the zone's nominal current and group are those placed. -/
def Entry.stands (e : Entry) (v : ZoneConfig) : Bool :=
  e.current == v.current && e.group == v.group

/-- R64: a zone's entry in a plan as every reader reads it. -/
def State.readEntry (s : State) (p : Option Plan) (z : ZoneId) : Entry :=
  match p with
  | some q =>
    if q.entries[z].stands (s.zone z).cfg then q.entries[z] else .empty (s.zone z).cfg
  | none => .empty (s.zone z).cfg

/-! ### Placement (R74 to R77) -/

/-- R75: the ideal slot of half-cycle k of a request r. -/
def idealSlot (len offset r k : Nat) : Nat := (k * len / r + offset % len) % len

/-- R76: the slots tried for an ideal slot p: p, p+1 and so on, wrapping, at most L. -/
def slotsFrom (len p : Nat) : List Nat := (List.range len).map fun i => (p + i) % len

/-- R76: may a half-cycle of current `i` in group `g` be placed in a slot with these sums? -/
def SlotSum.takes (x : SlotSum) (lim : Limits) (i : Nat) (g : GroupId) : Bool :=
  decide (x.supply + i ≤ lim.supply) && decide (x.group[g] + i ≤ lim.group[g])

/-- R76: a slot's sums with one more half-cycle. -/
def SlotSum.add (x : SlotSum) (i : Nat) (g : GroupId) : SlotSum :=
  { supply := x.supply + i, group := x.group.set g.val (x.group[g] + i) g.isLt }

/-- R76: the slot that takes a half-cycle of an entry, or none when all L are skipped. -/
def findSlot (lim : Limits) (len : Nat) (sums : List SlotSum) (e : Entry) (p : Nat) : Option Nat :=
  (slotsFrom len p).find? fun h =>
    !e.slots.contains h && (sums.getD h .zero).takes lim e.current e.group

/-- R76, R77: places half-cycle k of an entry, or curtails it. -/
def placeHalfCycle (lim : Limits) (len offset : Nat) (x : Entry × List SlotSum) (k : Nat) :
    Entry × List SlotSum :=
  match findSlot lim len x.2 x.1 (idealSlot len offset x.1.requested k) with
  | some h =>
    ({ x.1 with slots := x.1.slots ++ [h], granted := x.1.granted + 1 },
      x.2.set h ((x.2.getD h .zero).add x.1.current x.1.group))
  | none => x

/-- R76: places all the half-cycles of an entry, in increasing k. -/
def placeEntry (lim : Limits) (len offset : Nat) (e : Entry) (sums : List SlotSum) :
    Entry × List SlotSum :=
  (List.range e.requested).foldl (placeHalfCycle lim len offset) (e, sums)

/-- R74: the zone of a rotation key in the plan for frame F. -/
def zoneOfKey (frame : BitVec 32) (key : Nat) : ZoneId :=
  ⟨(key + frame.toNat % 24) % 24, Nat.mod_lt _ (by decide)⟩

/-- R74: the order of service: class 0 to 3, within a class by ascending rotation key. -/
def serviceOrder (s : State) (frame : BitVec 32) : List ZoneId :=
  (List.finRange 4).flatMap fun c =>
    ((List.range 24).map (zoneOfKey frame)).filter fun z => (s.zone z).cfg.prio == c

/-- R74, R76: places one zone in a plan. -/
def placeZone (s : State) (p : Plan) (z : ZoneId) : Plan :=
  let (e, sums) := placeEntry p.limits p.len (s.zone z).cfg.offset p.entries[z] p.sums
  { p with entries := p.entries.set z.val e z.isLt, sums := sums }

/-- R67, R74: places every zone, in the order of service. An entry of no source requests 0 and is
left as it is. -/
def placeAll (s : State) (p : Plan) : Plan := (serviceOrder s p.frame).foldl (placeZone s) p

/-! ### The cut (R66, R69 to R73) -/

/-- R71: c, the slots the committed plan holds for an order whose zero crossings the order unit has
not yet taken: those of the zone's entry when it stands and names the order, less slot 0 when the
boundary crossing has been taken. -/
def State.heldSlots (s : State) (z : ZoneId) (h : Half) (crossingTaken : Bool) : Nat :=
  let e := s.readEntry s.planner.committed z
  if e.source = .order h then
    if crossingTaken then (e.slots.filter fun i => i != 0).length else e.slots.length
  else 0

/-- R71: an order's request at the cut of a frame of length L. -/
def State.orderRequest (s : State) (z : ZoneId) (len : Nat) (crossingTaken : Bool) (o : Order) : Nat :=
  if o.isHalting then 0
  else min o.cap (min len (o.remaining - s.heldSlots z o.handle crossingTaken))

/-- What the cut fixes for a zone: its source and request, and whether the order chosen stands second
in the queue (R66 step 5, R72). -/
structure Choice where
  source : Source
  request : Nat
  second : Bool
  deriving DecidableEq, Repr

/-- No source and request 0 (R69). -/
def Choice.none : Choice := { source := .none, request := 0, second := false }

/-- R72: the source of a dosing zone, from its queue. -/
def State.chooseOrder (s : State) (z : ZoneId) (len : Nat) (crossingTaken : Bool) :
    List Order → Choice
  | [] => .none
  | head :: rest =>
    let r := s.orderRequest z len crossingTaken head
    if 0 < r then { source := .order head.handle, request := r, second := false }
    else
      match rest with
      | [] => .none
      | o :: _ =>
        let r2 := s.orderRequest z len crossingTaken o
        if 0 < r2 then { source := .order o.handle, request := r2, second := true } else .none

/-- R69 to R72: what the cut fixes for a zone. -/
def State.choose (s : State) (len : Nat) (crossingTaken : Bool) (z : ZoneId) : Choice :=
  if (s.groupOf z).state = .closed then
    match (s.zone z).state with
    | .demand =>
      { source := .continuous, request := min (s.zone z).demand len, second := false }
    | .dosing => s.chooseOrder z len crossingTaken (s.queue z)
    | _ => .none
  else .none

/-- R45: QUEUED becomes PLANNED; PLANNED and ACTIVE do not change. -/
def Order.marked (o : Order) : Order :=
  match o.state with
  | .queued => { o with state := .planned }
  | _ => o

/-- R45: marks the chosen order of a queue, the head or the second. -/
def markChosen (c : Choice) : List Order → List Order
  | [] => []
  | head :: rest =>
    if c.second then
      match rest with
      | [] => [head]
      | o :: os => head :: o.marked :: os
    else head.marked :: rest

/-- R45, R66 step 4: the order unit marks a zone's chosen order. -/
def markZone (choice : ZoneId → Choice) (z : ZoneId) (s : State) : State :=
  match (choice z).source with
  | .order _ => s.setQueue z (markChosen (choice z) (s.queue z))
  | _ => s

/-- R66 step 5: a zone's entry before placement. -/
def Entry.ofChoice (v : ZoneConfig) (c : Choice) : Entry :=
  { source := c.source, requested := c.request, granted := 0, slots := [], current := v.current,
    group := v.group }

/-- R66, R67: the cut for the frame after `frame`, and the plan built from it. The plan is held complete
from the cut on; nothing reads it before the boundary (DEDUCED, notes/assumptions/11.md). -/
def cut (frame : BitVec 32) (len : Nat) (crossingTaken : Bool) (s : State) : State :=
  let limits := s.planner.pendingLimits
  let choice := s.choose len crossingTaken
  let plan : Plan :=
    { frame := frame + 1, len := len, limits := limits,
      entries := Vector.ofFn fun z => Entry.ofChoice (s.zone z).cfg (choice z),
      sums := List.replicate len SlotSum.zero }
  let s1 := forZones allZones (markZone choice) s
  { s1 with planner := { s1.planner with limits := limits, building := some (placeAll s plan) } }

/-! ### The commit (R65, R68, R83) -/

/-- R65, Table 4-2: the plan committed at a boundary. -/
def State.committedAt (s : State) (frame : BitVec 32) (len : Nat) (discard : Bool) : Plan :=
  if discard then s.emptyPlan frame len
  else (planIfFor s.planner.building frame len).getD (s.emptyPlan frame len)

/-- R68: the summary of a plan, read through R64. -/
def State.summaryOf (s : State) (p : Plan) : Summary :=
  { frame := p.frame, len := p.len, limits := p.limits,
    zones := Vector.ofFn fun z =>
      let e := s.readEntry (some p) z
      { source := e.source, requested := e.requested, granted := e.granted },
    governs := true }

/-- R83: the curtailed zones of a plan, in ascending zone number. -/
def State.curtailedIn (s : State) (p : Plan) : List CurtailedZone :=
  allZones.filterMap fun z =>
    let e := s.readEntry (some p) z
    if e.granted < e.requested then
      some { zone := z, requested := e.requested, granted := e.granted }
    else none

/-- R68, R84: a zone's curtailed tally after the commit of a plan. -/
def State.tallyAfter (s : State) (p : Plan) (z : ZoneId) : Nat :=
  let e := s.readEntry (some p) z
  if e.granted < e.requested then
    satAdd max32 s.planner.curtailed[z] (e.requested - e.granted)
  else s.planner.curtailed[z]

/-- R65, R68, R83: the commit at the boundary that begins a frame; `discard` at an L-changed boundary
and at the lock crossing. -/
def commit (frame : BitVec 32) (len : Nat) (discard : Bool) (s : State) : State :=
  let p := s.committedAt frame len discard
  let s1 := { s with planner := { s.planner with
    committed := some p, building := none, summary := s.summaryOf p,
    curtailed := Vector.ofFn fun z => s.tallyAfter p z } }
  if (s.curtailedIn p).isEmpty then s1 else submit (.curtailed frame (s.curtailedIn p)) s1

/-- R81: the planner at a mains loss. -/
def discardPlans (s : State) : State :=
  { s with planner := { s.planner with
      committed := none, building := none,
      summary := { s.planner.summary with governs := false } } }

end Sys2Proof.Machine
end

