-- ==== Sys2Proof/Machine/Switch.lean ====
section
/-! DEFINITION. The switch stage (Chapter 5): the drive law, drive records, lines, claims and tallies. -/

namespace Sys2Proof.Machine

/-- R90, R91: the plan's source matches what the zone wants: a continuous source a zone in DEMAND, an
order's handle a zone in DOSING whose head has that handle and is PLANNED or ACTIVE. -/
def State.sourceMatches (s : State) (z : ZoneId) (src : Source) : Bool :=
  match src with
  | .none => false
  | .continuous => (s.zone z).state == .demand
  | .order h =>
    (s.zone z).state == .dosing &&
      match s.queue z with
      | o :: _ => o.handle == h && o.firable
      | [] => false

/-- R90: the drive law, for the half-cycle h of a frame. -/
def State.drives (s : State) (frame : BitVec 32) (len h : Nat) (z : ZoneId) : Bool :=
  let e := s.readEntry (s.governing frame len) z
  s.isLocked && (s.groupOf z).state == .closed && e.slots.contains h && s.sourceMatches z e.source

/-- R97: the zone is driven on a dose source. -/
def State.drivesDose (s : State) (frame : BitVec 32) (len h : Nat) (z : ZoneId) : Bool :=
  s.drives frame len h z && (s.zone z).state == .dosing

/-- R89 step 1, R95: an open record is closed as it becomes the previous one; a record already cut short
moves unchanged. -/
def DriveRecord.closeOpen (r : DriveRecord) : DriveRecord :=
  if r.status = .opened then { r with status := .closed } else r

/-- R95: the sum of the nominal currents of a set of zones. -/
def State.currentOf (s : State) (m : ZoneSet) : Nat :=
  (allZones.map fun z => if inZones m z then (s.zone z).cfg.current else 0).sum

/-- R98: a fired tally after a half-cycle driven or not. -/
def SwitchStage.tallyAfter (w : SwitchStage) (m : ZoneSet) (z : ZoneId) : Nat :=
  if inZones m z then satAdd max32 w.fired[z] 1 else w.fired[z]

/-- R89 steps 1 to 5: the decided set becomes the drive lines, the record and the tallies. -/
def driveLines (frame : BitVec 32) (h : Nat) (synthetic : Bool) (m : ZoneSet) (s : State) : State :=
  { s with switch :=
      { lines := m,
        present := some { frame := frame, h := h, synthetic := synthetic, set := m,
                          current := s.currentOf m, status := .opened },
        previous := s.switch.present.map (·.closeOpen),
        fired := Vector.ofFn fun z => s.switch.tallyAfter m z } }

/-- R46 steps 2 and 3, R97: one zone's claim, then its confirmations. -/
def accountZone (frame : BitVec 32) (dose : ZoneId → Bool) (z : ZoneId) (s : State) : State :=
  confirmHalts z (if dose z then fireHead z frame s else s)

/-- R89: the switch stage, with the order unit, takes a zero crossing that begins half-cycle h: all zones
are decided, then the claims are accounted (DEDUCED, notes/assumptions/24.md). -/
def switchAtCrossing (frame : BitVec 32) (len h : Nat) (synthetic : Bool) (s : State) : State :=
  forZones allZones (accountZone frame (s.drivesDose frame len h))
    (driveLines frame h synthetic (zoneSet (s.drives frame len h)) s)

/-- R94: the switch stage at a mains loss. -/
def dropLines (s : State) : State :=
  { s with switch := { s.switch with
      lines := 0,
      present := s.switch.present.map fun r => { r with status := .cutShort } } }

end Sys2Proof.Machine
end

