-- ==== Sys2Proof/Machine/Mains.lean ====
section
/-! DEFINITION. The mains timing unit (Chapter 1): edges, lock, the measured period, zero crossings and
their hand-on to the other blocks, the mid-half-cycle point, the window and the loss. -/

namespace Sys2Proof.Machine

/-! ### The hand-on of a zero crossing (R10, Table 1-3) -/

/-- What a zero crossing carries to its takers (Table 1-3), with the half-cycle that it ends. -/
structure Crossing where
  /-- frame of the half-cycle it begins -/
  frame : BitVec 32
  len : Nat
  h : Nat
  synthetic : Bool
  /-- the lock crossing (R5) -/
  lock : Bool
  /-- a frame boundary -/
  boundary : Bool
  /-- the L-changed marker -/
  lChanged : Bool
  /-- frame number and h of the half-cycle that the crossing ends -/
  endedFrame : BitVec 32
  endedH : Nat
  deriving DecidableEq, Repr

/-- R71: the switch stage has already taken this crossing: the present drive record is the one it
makes. -/
def State.crossingTaken (s : State) (c : Crossing) : Bool :=
  match s.switch.present with
  | some r => r.frame == c.frame && r.h == c.h && r.status == .opened
  | none => false

/-- R110, R112, R113: the supervision unit takes a crossing: the supply check of the half-cycle that
ends (none at the lock crossing, none on a record cut short), at a boundary the leak, and a new
accumulation. -/
def supervisionAtCrossing (c : Crossing) (s : State) : State :=
  let s1 :=
    if c.lock then s
    else
      match s.switch.recordOf c.endedFrame c.endedH with
      | some r => if r.status = .cutShort then s else checkSupply r s
      | none => s
  let s2 := if c.boundary then leakFrame s1 else s1
  restartReadings s2

/-- R65, R66: the planner takes a frame boundary: the commit, then the cut. -/
def plannerAtBoundary (c : Crossing) (s : State) : State :=
  if c.boundary then
    let s1 := commit c.frame c.len (c.lChanged || c.lock) s
    cut c.frame c.len (s1.crossingTaken c) s1
  else s

/-- One block takes a crossing (Table 1-3). -/
def takeCrossing (c : Crossing) (t : Taker) (s : State) : State :=
  match t with
  | .switchStage => switchAtCrossing c.frame c.len c.h c.synthetic s
  | .supervision => supervisionAtCrossing c s
  | .contactors => contactorsAtCrossing s
  | .planner => plannerAtBoundary c s
  | .zoneTable => if c.boundary then zonesAtBoundary c.len c.lChanged s else s

/-- The takers in the order of Table 1-3, the default (DESIGN CHOICE, notes/assumptions/5.md). -/
def tableOrder : List Taker := [.switchStage, .supervision, .contactors, .planner, .zoneTable]

/-- Every taker once: those named, in the order named, then the others in the table's order. -/
def takerOrder (order : List Taker) : List Taker :=
  order.eraseDups ++ tableOrder.filter fun t => !order.contains t

/-- Table 1-3: a zero crossing is handed on, each block taking it once, in some order. -/
def handOn (order : List Taker) (c : Crossing) (s : State) : State :=
  (takerOrder order).foldl (fun s t => takeCrossing c t s) s

/-! ### The measured period (R6) -/

/-- R6: the mean of the interval history, any fraction dropped; 0 while it is empty. -/
def periodOf (history : List Nat) : Nat :=
  if history.isEmpty then 0 else history.sum / history.length

/-- R6: an interval is appended; when a ninth would enter, the oldest leaves. -/
def appendInterval (history : List Nat) (i : Nat) : List Nat :=
  (history ++ [i]).drop (history.length + 1 - Config.lockRun)

/-- The history and the period recomputed from it (R6). -/
def Mtu.withHistory (m : Mtu) (history : List Nat) : Mtu :=
  { m with history := history, period := periodOf history }

/-! ### Zero crossings in LOCKED (R7 to R10) -/

/-- R7, R8, R10: the half-cycle index advances; at L-1 the frame advances and the pending L is applied. -/
def Mtu.advance (m : Mtu) : Mtu :=
  if m.h + 1 < m.len then { m with h := m.h + 1 }
  else { m with h := 0, frame := m.frame + 1, len := m.pendingLen }

/-- R7, R8, R10: what the crossing of an advance carries. -/
def Mtu.crossing (m : Mtu) (synthetic : Bool) : Crossing :=
  let m' := m.advance
  let boundary := !decide (m.h + 1 < m.len)
  { frame := m'.frame, len := m'.len, h := m'.h, synthetic := synthetic, lock := false,
    boundary := boundary, lChanged := boundary && m.pendingLen != m.len,
    endedFrame := m.frame, endedH := m.h }

/-- R9: the mid-half-cycle point of a crossing that set the reference time `ref`, made at `now`: half
a period after the reference time, but not before the crossing is made (DEDUCED,
notes/assumptions/16.md). -/
def midInstant (now ref period : Nat) : Nat := max now (ref + period / 2)

/-- R7 to R9: a crossing in LOCKED with the reference time `ref`: h advances, the point is due, and the
crossing is handed on. -/
def crossLocked (order : List Taker) (ref : Nat) (synthetic : Bool) (s : State) : State :=
  handOn order (s.mtu.crossing synthetic)
    { s with mtu := { s.mtu.advance with
        refTime := some ref, coast := synthetic,
        midDue := some (midInstant s.now ref s.mtu.period) } }

/-- R7, R6: a valid edge in LOCKED, `i` after the reference time: its interval is appended when the
previous crossing was real. -/
def realCrossing (order : List Taker) (i : Nat) (s : State) : State :=
  let m := if s.mtu.coast then s.mtu else s.mtu.withHistory (appendInterval s.mtu.history i)
  crossLocked order s.now false { s with mtu := m }

/-- R8: the window expires with the coast flag clear: a synthetic zero crossing one period after the
reference time. -/
def syntheticCrossing (order : List Taker) (ref : Nat) (s : State) : State :=
  crossLocked order (ref + s.mtu.period) true
    { s with mtu := { s.mtu with coasts := satAdd max16 s.mtu.coasts 1 } }

/-- R11: the mains is lost. -/
def loseMains (s : State) : State :=
  let s1 := { s with mtu := { s.mtu with
    state := .lost, coast := false, refTime := none, len := s.mtu.pendingLen, midDue := none } }
  let n := s1.lossCount
  let s2 := loseAllOrders (zonesAtLoss (discardPlans (dropLines s1)))
  submit (.mainsLost s.mtu.frame s.mtu.h n) s2

/-- R8: the window's expiry, taken at its instant, 12.5 ms after the reference time. -/
def expireWindow (order : List Taker) (s : State) : State :=
  match s.mtu.refTime with
  | some ref =>
    let s1 := s.atTime (ref + Config.window)
    if s1.mtu.coast then loseMains s1 else syntheticCrossing order ref s1
  | none => s

/-- In LOCKED, the window has run out before the instant `t` (R8). -/
def State.windowOver (s : State) (t : Nat) : Bool :=
  match s.mtu.refTime with
  | some ref => s.isLocked && decide (ref + Config.window < t)
  | none => false

/-- R8: a window that ran out before `t` expires first: at most a synthetic crossing and then the loss
(DEDUCED, notes/assumptions/4.md). -/
def settleWindow (order : List Taker) (t : Nat) (s : State) : State :=
  let s1 := if s.windowOver t then expireWindow order s else s
  if s1.windowOver t then expireWindow order s1 else s1

/-! ### Edges (R2 to R5, R7, R12) -/

/-- R3: a glitch. -/
def glitch (s : State) : State :=
  { s with mtu := { s.mtu with glitches := satAdd max16 s.mtu.glitches 1 } }

/-- R2: an edge with no reference time becomes the reference edge. -/
def referenceEdge (s : State) : State :=
  { s with mtu := { s.mtu with refTime := some s.now } }

/-- R12: the first edge in LOST. -/
def endOfLost (s : State) : State :=
  { s with mtu := { s.mtu.withHistory [] with
      state := .searching, run := 0, h := 0, refTime := some s.now } }

/-- R4: a long edge in SEARCHING. -/
def longEdge (s : State) : State :=
  { s with mtu := { s.mtu.withHistory [] with run := 0, refTime := some s.now } }

/-- R5: the crossing of the lock. -/
def lockCrossing (m : Mtu) : Crossing :=
  { frame := m.frame + 1, len := m.pendingLen, h := 0, synthetic := false, lock := true,
    boundary := true, lChanged := false, endedFrame := m.frame, endedH := m.h }

/-- R5: the mains locks, at a valid edge whose interval the history already holds. MAINS_LOCKED is
submitted before the crossing is handed on (DESIGN CHOICE, notes/assumptions/18.md). -/
def lockMains (order : List Taker) (s : State) : State :=
  let m := s.mtu
  let s1 := { s with mtu := { m with
    state := .locked, run := 0, coast := false, h := 0, len := m.pendingLen, frame := m.frame + 1,
    refTime := some s.now, midDue := some (midInstant s.now s.now m.period) } }
  handOn order (lockCrossing m) (submit (.mainsLocked m.period (m.frame + 1)) s1)

/-- R4, R5: a valid edge in SEARCHING, `i` after the reference time. -/
def searchEdge (order : List Taker) (i : Nat) (s : State) : State :=
  let m := s.mtu.withHistory (appendInterval s.mtu.history i)
  let s1 := { s with mtu := { m with run := m.run + 1, refTime := some s.now } }
  if Config.lockRun ≤ s1.mtu.run then lockMains order s1 else s1

/-- R2 to R5, R7: an edge with a reference time, in SEARCHING or LOCKED. A long interval does not arise
in LOCKED, whose window has been settled before (notes/assumptions/20.md). -/
def classedEdge (order : List Taker) (ref : Nat) (s : State) : State :=
  let i := s.now - ref
  if i < Config.shortestValid then glitch s
  else if i ≤ Config.window then
    if s.isLocked then realCrossing order i s else searchEdge order i s
  else if s.isLocked then s else longEdge s

/-- R2: an edge on ZX, at the present instant. -/
def edge (order : List Taker) (s : State) : State :=
  match s.mtu.state with
  | .lost => endOfLost s
  | _ =>
    match s.mtu.refTime with
    | none => referenceEdge s
    | some ref => classedEdge order ref s

/-- R2, R8: an edge of the instant `time`, taken there or at the present instant, whichever is later, after
the windows that ran out before it is taken (DEDUCED, notes/assumptions/4.md). -/
def edgeAt (order : List Taker) (time : Nat) (s : State) : State :=
  edge order ((settleWindow order (max s.now time) s).atTime time)

/-! ### The mid-half-cycle point (R9, R102, R107, R138) -/

/-- R138: the contactor controller's tests at a point, in ascending group (notes/assumptions/13.md). -/
def testGroups (s : State) : State := forGroups allGroups testGroup s

/-- R9, Table 1-3: the point of the present half-cycle, taken at its instant by supervision and the
contactor controller. Whichever is first, the controller reads the sample of this point (R102). -/
def midPoint (cs : ZoneSet) (contactorsFirst : Bool) (s : State) : State :=
  let s1 := takeSample cs { s with mtu := { s.mtu with midDue := none } }
  if contactorsFirst then conductionChecks cs (testGroups s1)
  else testGroups (conductionChecks cs s1)

end Sys2Proof.Machine
end

