-- ==== Sys2Proof/Machine/Operands.lean ====
section
/-! DEFINITION. The 34 requests with their fields: type codes (R190, Table 11-2), payload layout and its
reading (R191 steps 1 and 2, Tables 11-4 and 11-5), and the range check (R191 step 3). -/

namespace Sys2Proof.Machine

/-- A request with its fields as they stand in its payload, not yet range-checked (Table 11-4). -/
inductive Request where
  | nop
  | identify
  | linkSync
  | setLinkTiming (interval : Half)
  | queryLink
  | setSubscription (mask : Byte)
  | queryReportStatus
  | setFrame (len : Byte)
  | queryMains
  | configZone (zone group : Byte) (current : Half)
      (prio offset lease fallback openLimit stuckLimit : Byte)
  | enableZone (zone : Byte)
  | disableZone (zone : Byte)
  | setDemand (zone demand : Byte)
  | clearZone (zone : Byte)
  | queryZone (zone : Byte)
  | queueOrder (zone : Byte) (tag total : Half) (cap : Byte)
  | abortOrder (zone : Byte) (tag : Half)
  | queryOrders (zone : Byte)
  | setLimits (supply g0 g1 g2 g3 : Half)
  | queryPlan (zone : Byte)
  | queryFrameSummary
  | queryTally (zone : Byte)
  | clearTally (selector : Byte)
  | setSupervision (leak : Byte) (offset : Half) (percent limit : Byte)
  | querySupervision
  | closeGroup (group : Byte)
  | openGroup (group : Byte)
  | ackTrip (group : Byte)
  | tripAll
  | setContactorTiming (close opening verify : Half)
  | queryGroups
  | readTripRecord (number : Half)
  | releaseTripRecord (number : Half)
  | queryTripStore
  deriving DecidableEq, Repr

/-- The type code of a request (Table 11-2). -/
def Request.typeCode : Request → Byte
  | .nop => 0x01
  | .identify => 0x02
  | .linkSync => 0x03
  | .setLinkTiming .. => 0x04
  | .queryLink => 0x05
  | .setSubscription .. => 0x06
  | .queryReportStatus => 0x07
  | .setFrame .. => 0x08
  | .queryMains => 0x09
  | .configZone .. => 0x0A
  | .enableZone .. => 0x0B
  | .disableZone .. => 0x0C
  | .setDemand .. => 0x0D
  | .clearZone .. => 0x0E
  | .queryZone .. => 0x0F
  | .queueOrder .. => 0x10
  | .abortOrder .. => 0x11
  | .queryOrders .. => 0x12
  | .setLimits .. => 0x13
  | .queryPlan .. => 0x14
  | .queryFrameSummary => 0x15
  | .queryTally .. => 0x16
  | .clearTally .. => 0x17
  | .setSupervision .. => 0x18
  | .querySupervision => 0x19
  | .closeGroup .. => 0x1A
  | .openGroup .. => 0x1B
  | .ackTrip .. => 0x1C
  | .tripAll => 0x1D
  | .setContactorTiming .. => 0x1E
  | .queryGroups => 0x1F
  | .readTripRecord .. => 0x20
  | .releaseTripRecord .. => 0x21
  | .queryTripStore => 0x22

/-- The two bytes of a field, low byte first. -/
def Half.bytes (v : Half) : List Byte := [v.extractLsb' 0 8, v.extractLsb' 8 8]

/-- The two-byte field that two bytes carry, low byte first. -/
def halfOf (lo hi : Byte) : Half := hi ++ lo

/-- The payload of a request (Tables 11-4 and 11-5). -/
def Request.payload : Request → List Byte
  | .setLinkTiming i => Half.bytes i
  | .setSubscription m => [m]
  | .setFrame l => [l]
  | .configZone z g c p o l f ol sl => [z, g] ++ Half.bytes c ++ [p, o, l, f, ol, sl]
  | .enableZone z => [z]
  | .disableZone z => [z]
  | .setDemand z d => [z, d]
  | .clearZone z => [z]
  | .queryZone z => [z]
  | .queueOrder z t n c => [z] ++ Half.bytes t ++ Half.bytes n ++ [c]
  | .abortOrder z t => [z] ++ Half.bytes t
  | .queryOrders z => [z]
  | .setLimits s a b c d =>
      Half.bytes s ++ Half.bytes a ++ Half.bytes b ++ Half.bytes c ++ Half.bytes d
  | .queryPlan z => [z]
  | .queryTally z => [z]
  | .clearTally x => [x]
  | .setSupervision l o p m => [l] ++ Half.bytes o ++ [p, m]
  | .closeGroup g => [g]
  | .openGroup g => [g]
  | .ackTrip g => [g]
  | .setContactorTiming c o v => Half.bytes c ++ Half.bytes o ++ Half.bytes v
  | .readTripRecord n => Half.bytes n
  | .releaseTripRecord n => Half.bytes n
  | .nop => []
  | .identify => []
  | .linkSync => []
  | .queryLink => []
  | .queryReportStatus => []
  | .queryMains => []
  | .queryFrameSummary => []
  | .querySupervision => []
  | .tripAll => []
  | .queryGroups => []
  | .queryTripStore => []

/-! ### Reading a payload (R191 steps 1 and 2) -/

/-- What validation makes of a request frame's TYPE and payload length: the request, or the result
code of the step that fails. -/
abbrev Parsed := Except ResultCode Request

/-- A request without fields: length 0. -/
def parse0 (r : Request) : List Byte → Parsed
  | [] => .ok r
  | _ => .error .badLength

/-- A request of one byte. -/
def parse1 (f : Byte → Request) : List Byte → Parsed
  | [a] => .ok (f a)
  | _ => .error .badLength

/-- A request of one two-byte field. -/
def parse2 (f : Half → Request) : List Byte → Parsed
  | [a, b] => .ok (f (halfOf a b))
  | _ => .error .badLength

/-- CONFIG_ZONE, length 10. -/
def parseConfigZone : List Byte → Parsed
  | [z, g, c0, c1, p, o, l, f, ol, sl] => .ok (.configZone z g (halfOf c0 c1) p o l f ol sl)
  | _ => .error .badLength

/-- SET_DEMAND, length 2. -/
def parseSetDemand : List Byte → Parsed
  | [z, d] => .ok (.setDemand z d)
  | _ => .error .badLength

/-- QUEUE_ORDER, length 6 (Table 11-5). -/
def parseQueueOrder : List Byte → Parsed
  | [z, t0, t1, n0, n1, c] => .ok (.queueOrder z (halfOf t0 t1) (halfOf n0 n1) c)
  | _ => .error .badLength

/-- ABORT_ORDER, length 3. -/
def parseAbortOrder : List Byte → Parsed
  | [z, t0, t1] => .ok (.abortOrder z (halfOf t0 t1))
  | _ => .error .badLength

/-- SET_LIMITS, length 10. -/
def parseSetLimits : List Byte → Parsed
  | [s0, s1, a0, a1, b0, b1, c0, c1, d0, d1] =>
      .ok (.setLimits (halfOf s0 s1) (halfOf a0 a1) (halfOf b0 b1) (halfOf c0 c1) (halfOf d0 d1))
  | _ => .error .badLength

/-- SET_SUPERVISION, length 5. -/
def parseSetSupervision : List Byte → Parsed
  | [l, o0, o1, p, m] => .ok (.setSupervision l (halfOf o0 o1) p m)
  | _ => .error .badLength

/-- SET_CONTACTOR_TIMING, length 6. -/
def parseSetContactorTiming : List Byte → Parsed
  | [c0, c1, o0, o1, v0, v1] => .ok (.setContactorTiming (halfOf c0 c1) (halfOf o0 o1) (halfOf v0 v1))
  | _ => .error .badLength

/-- R190, R191 steps 1 and 2: the request of a TYPE byte and a payload. -/
def parseRequest (type : Byte) (p : List Byte) : Parsed :=
  match type.toNat with
  | 0x01 => parse0 .nop p
  | 0x02 => parse0 .identify p
  | 0x03 => parse0 .linkSync p
  | 0x04 => parse2 .setLinkTiming p
  | 0x05 => parse0 .queryLink p
  | 0x06 => parse1 .setSubscription p
  | 0x07 => parse0 .queryReportStatus p
  | 0x08 => parse1 .setFrame p
  | 0x09 => parse0 .queryMains p
  | 0x0A => parseConfigZone p
  | 0x0B => parse1 .enableZone p
  | 0x0C => parse1 .disableZone p
  | 0x0D => parseSetDemand p
  | 0x0E => parse1 .clearZone p
  | 0x0F => parse1 .queryZone p
  | 0x10 => parseQueueOrder p
  | 0x11 => parseAbortOrder p
  | 0x12 => parse1 .queryOrders p
  | 0x13 => parseSetLimits p
  | 0x14 => parse1 .queryPlan p
  | 0x15 => parse0 .queryFrameSummary p
  | 0x16 => parse1 .queryTally p
  | 0x17 => parse1 .clearTally p
  | 0x18 => parseSetSupervision p
  | 0x19 => parse0 .querySupervision p
  | 0x1A => parse1 .closeGroup p
  | 0x1B => parse1 .openGroup p
  | 0x1C => parse1 .ackTrip p
  | 0x1D => parse0 .tripAll p
  | 0x1E => parseSetContactorTiming p
  | 0x1F => parse0 .queryGroups p
  | 0x20 => parse2 .readTripRecord p
  | 0x21 => parse2 .releaseTripRecord p
  | 0x22 => parse0 .queryTripStore p
  | _ => .error .unknownRequest

/-! ### Ranges (R191 step 3, Table 11-4) -/

/-- A field lies between two bounds. -/
def within (lo hi v : Nat) : Bool := decide (lo ≤ v) && decide (v ≤ hi)

/-- A zone number 0 to 23. -/
def zoneInRange (z : Byte) : Bool := decide (z.toNat < 24)

/-- A group number 0 to 3. -/
def groupInRange (g : Byte) : Bool := decide (g.toNat < 4)

/-- R191 step 3: every field lies in its range, with `len` the L in force. Any field out of range gives
the one code RANGE, so the order of the checks does not show. -/
def Request.inRange (len : Nat) : Request → Bool
  | .setLinkTiming i => within 10 500 i.toNat
  | .setSubscription m => within 0 63 m.toNat
  | .setFrame l => within 8 128 l.toNat
  | .configZone z g c p o _ f ol sl =>
      zoneInRange z && groupInRange g && within 1 500 c.toNat && within 0 3 p.toNat &&
        within 0 127 o.toNat && within 0 128 f.toNat && within 1 255 ol.toNat &&
        within 1 255 sl.toNat
  | .enableZone z => zoneInRange z
  | .disableZone z => zoneInRange z
  | .setDemand z d => zoneInRange z && within 0 len d.toNat
  | .clearZone z => zoneInRange z
  | .queryZone z => zoneInRange z
  | .queueOrder z t n c =>
      zoneInRange z && within 1 65535 t.toNat && within 1 65535 n.toNat && within 1 128 c.toNat
  | .abortOrder z t => zoneInRange z && within 1 65535 t.toNat
  | .queryOrders z => zoneInRange z
  | .setLimits s a b c d =>
      within 0 4000 s.toNat && within 0 2000 a.toNat && within 0 2000 b.toNat &&
        within 0 2000 c.toNat && within 0 2000 d.toNat
  | .queryPlan z => zoneInRange z
  | .queryTally z => zoneInRange z
  | .clearTally x => zoneInRange x || x == 255
  | .setSupervision l o p m =>
      within 0 15 l.toNat && within 0 500 o.toNat && within 0 50 p.toNat && within 1 255 m.toNat
  | .closeGroup g => groupInRange g
  | .openGroup g => groupInRange g
  | .ackTrip g => groupInRange g
  | .setContactorTiming c o v =>
      within 20 1000 c.toNat && within 20 1000 o.toNat && within 20 1000 v.toNat
  | .releaseTripRecord n => within 1 65535 n.toNat
  | .readTripRecord _ => true
  | .nop => true
  | .identify => true
  | .linkSync => true
  | .queryLink => true
  | .queryReportStatus => true
  | .queryMains => true
  | .queryFrameSummary => true
  | .querySupervision => true
  | .tripAll => true
  | .queryGroups => true
  | .queryTripStore => true

/-- The zone that an in-range zone byte names. -/
def zoneOf (z : Byte) : ZoneId := ⟨z.toNat % 24, Nat.mod_lt _ (by decide)⟩

/-- The group that an in-range group byte names. -/
def groupNumber (g : Byte) : GroupId := ⟨g.toNat % 4, Nat.mod_lt _ (by decide)⟩

end Sys2Proof.Machine
end

