-- ==== Sys2Proof/Machine/Requests.lean ====
section
/-! DEFINITION. What each request does at its owning block and what its reply carries (the request rules
of Chapters 1 to 10; field widths by R194, DEDUCED, notes/assumptions/21.md). A request here has passed validation. -/

namespace Sys2Proof.Machine

/-- What the owning block makes of a request: the state, the result code, and the reply's fields after
it, which only an OK reply carries (R192). -/
structure Answer where
  state : State
  result : ResultCode
  fields : List Byte
  deriving DecidableEq, Repr

/-- The request is taken: OK and the reply's fields. -/
def State.grant (s : State) (fields : List Byte) : Answer :=
  { state := s, result := .ok, fields := fields }

/-- The request is refused, and nothing changes. -/
def State.deny (s : State) (code : ResultCode) : Answer :=
  { state := s, result := code, fields := [] }

/-- A number in one byte. -/
def byteOf (n : Nat) : Byte := BitVec.ofNat 8 n

/-! ### Host link and report queue (R170, R171, R186 to R189) -/

/-- R187. -/
def answerIdentify (s : State) : Answer :=
  s.grant (leBytes 2 Config.familyCode ++
    [byteOf Config.revision, 24, 4, byteOf Config.queueDepth, byteOf Config.reportDepth,
      byteOf Config.reportWindow, byteOf Config.tripSlots])

/-- R186 steps 1 to 3, R173; the discarded count takes 4 bytes (R194). -/
def answerLinkSync (s : State) : Answer :=
  { s with
    reports := s.reports.linkSync,
    link := { s.link with stored := none, lastNum := none, retransmitAt := none } }.grant
    (leBytes 4 s.reports.discardedCount)

/-- R188. -/
def answerSetLinkTiming (interval : Half) (s : State) : Answer :=
  { s with link := { s.link with interval := interval.toNat } }.grant (Half.bytes interval)

/-- Table 10-2, in its order. -/
def LinkCounters.list (c : LinkCounters) : List Nat :=
  [c.framesReceived, c.framing, c.length, c.crc, c.control, c.busyDrop, c.duplicate, c.ackRange,
    c.retransmit, c.executed, c.repliesSent, c.reportsSent]

/-- R189. -/
def answerQueryLink (s : State) : Answer :=
  s.grant (leBytes 4 s.link.rate.bitsPerSecond ++ leBytes 2 s.link.interval ++
    [flagByte s.link.retransmitRunning] ++ s.link.counters.list.flatMap (leBytes 2))

/-- R170. -/
def answerSetSubscription (mask : Byte) (s : State) : Answer :=
  { s with reports := { s.reports with mask := mask.extractLsb' 0 6 } }.grant [mask]

/-- R171. -/
def answerQueryReportStatus (s : State) : Answer :=
  let q := s.reports
  s.grant ([byteOf q.entries.length, byteOf q.unsentCount, byteOf q.sentCount, q.nextSeq] ++
    leBytes 2 q.lostPending ++ leBytes 4 q.lostTotal ++ leBytes 4 q.generated.toNat ++
    leBytes 4 q.acknowledged.toNat ++ leBytes 4 q.lost.toNat ++ [byteOf q.mask.toNat])

/-! ### Mains timing unit (R13, R14) -/

/-- R13 condition 1. -/
def State.anyGroupActive (s : State) : Bool := allGroups.any fun g => (s.group g).state != .opened

/-- R13 condition 2. -/
def State.anyZoneActive (s : State) : Bool := allZones.any fun z => (s.zone z).wants

/-- R13. -/
def answerSetFrame (len : Byte) (s : State) : Answer :=
  if s.anyGroupActive then s.deny .groupsActive
  else if s.anyZoneActive then s.deny .zonesActive
  else
    let l := if s.isLocked then s.mtu.len else len.toNat
    { s with mtu := { s.mtu with len := l, pendingLen := len.toNat } }.grant
      [byteOf l, byteOf len.toNat]

/-- R14. -/
def answerQueryMains (s : State) : Answer :=
  let m := s.mtu
  s.grant ([m.state.code] ++ leBytes 2 m.period ++ [byteOf m.h, byteOf m.len, byteOf m.pendingLen] ++
    leBytes 4 m.frame.toNat ++ leBytes 2 m.glitches ++ leBytes 2 m.coasts)

/-! ### Zone table (R19 to R22, R36 to R38) -/

/-- R19. -/
def answerConfigZone (z : ZoneId) (cfg : ZoneConfig) (s : State) : Answer :=
  if (s.zone z).state = .disabled then
    (zeroScores z (s.setZone z { s.zone z with cfg := cfg, configured := true })).grant []
  else s.deny .wrongState

/-- R20. -/
def answerEnableZone (z : ZoneId) (s : State) : Answer :=
  if (s.zone z).state = .disabled then
    if (s.zone z).configured then (s.restZone z .idle).grant [] else s.deny .notConfigured
  else s.deny .wrongState

/-- R21. -/
def answerDisableZone (z : ZoneId) (s : State) : Answer :=
  match (s.zone z).state with
  | .locked => s.deny .zoneLocked
  | .disabled => s.grant [0]
  | _ =>
    let r := leaveService z .disabled .zoneDisabled s
    (zeroScores z r.1).grant [byteOf r.2]

/-- R22: the demand taken in IDLE or DEMAND. -/
def State.setDemand (s : State) (z : ZoneId) (d : Nat) : State :=
  if d = 0 then s.restZone z .idle
  else s.setZone z { s.zone z with
    state := .demand, demand := d, leaseLeft := (s.zone z).cfg.lease }

/-- R22: the OK reply, as the record stands after the request. -/
def State.grantDemand (s : State) (z : ZoneId) : Answer :=
  s.grant [byteOf (s.zone z).demand, byteOf (s.zone z).leaseLeft]

/-- R22. -/
def answerSetDemand (z : ZoneId) (d : Nat) (s : State) : Answer :=
  match (s.zone z).state with
  | .idle => (s.setDemand z d).grantDemand z
  | .demand => (s.setDemand z d).grantDemand z
  | .dosing => s.deny .ordersPending
  | .disabled => s.deny .wrongState
  | .faulted => s.deny .wrongState
  | .locked => s.deny .wrongState

/-- R36, R37. -/
def answerClearZone (z : ZoneId) (s : State) : Answer :=
  match (s.zone z).state with
  | .faulted => (zeroScores z (s.restZone z .idle)).grant []
  | .locked =>
    if (s.groupOf z).state = .opened then (zeroScores z (s.restZone z .idle)).grant []
    else s.deny .groupNotOpen
  | _ => s.deny .wrongState

/-- R38: the head order's tag, fired and remaining, all 0 when the queue is empty. -/
def headBytes : List Order → List Byte
  | [] => [0, 0, 0, 0, 0, 0]
  | o :: _ => leBytes 2 o.tag.toNat ++ leBytes 2 o.fired ++ leBytes 2 o.remaining

/-- The eight configuration fields (Table 2-1). -/
def ZoneConfig.bytes (c : ZoneConfig) : List Byte :=
  [groupByte c.group] ++ leBytes 2 c.current ++
    [byteOf c.prio.val, byteOf c.offset, byteOf c.lease, byteOf c.fallback, byteOf c.openLimit,
      byteOf c.stuckLimit]

/-- R38. -/
def answerQueryZone (z : ZoneId) (s : State) : Answer :=
  let v := s.zone z
  s.grant ([v.state.code, flagByte v.configured] ++ v.cfg.bytes ++
    [byteOf v.demand, byteOf v.leaseLeft, byteOf s.sup.openScores[z], byteOf s.sup.stuckScores[z],
      byteOf (s.queue z).length] ++ headBytes (s.queue z))

/-! ### Order unit (R44, R50, R51, R58) -/

/-- R27: the zone table is told of an accepted order. -/
def State.orderAccepted (s : State) (z : ZoneId) : State :=
  if (s.zone z).state = .dosing then s else s.restZone z .dosing

/-- R44: the order appended, with its handle. -/
def State.appendOrder (s : State) (z : ZoneId) (tag : Half) (total cap : Nat) : State :=
  let h := s.nextHandle
  let o : Order := { tag := tag, handle := h, total := total, cap := cap, fired := 0,
                     remaining := total, state := .queued }
  let s1 := s.setQueue z (s.queue z ++ [o])
  ({ s1 with orders := { s1.orders with counter := h + 1 } }).orderAccepted z

/-- R44: the zone's state takes no order. -/
def ZoneState.refusesOrders : ZoneState → Bool
  | .disabled => true
  | .faulted => true
  | .locked => true
  | _ => false

/-- R44. -/
def answerQueueOrder (z : ZoneId) (tag : Half) (total cap : Nat) (s : State) : Answer :=
  if (s.zone z).state.refusesOrders then s.deny .wrongState
  else if Config.queueDepth ≤ (s.queue z).length then s.deny .queueFull
  else if (s.queue z).any (fun o => o.tag == tag) then s.deny .duplicateTag
  else (s.appendOrder z tag total cap).grant (Half.bytes s.nextHandle)

/-- R50: the OK reply of ABORT_ORDER: outcome (0 REMOVED, 1 HALTING) and the order's counts. -/
def abortFields (outcome : Byte) (o : Order) : List Byte :=
  [outcome] ++ leBytes 2 o.fired ++ leBytes 2 o.remaining

/-- R50, R51: an order found behind the head. -/
def abortBehind (z : ZoneId) (tag : Half) (head : Order) (rest : List Order) (s : State) : Answer :=
  match rest.find? fun o => o.tag == tag with
  | none => s.deny .notFound
  | some o =>
    (s.shrinkQueue z (head :: rest.filter fun x => x.tag != tag)).grant (abortFields 0 o)

/-- R50, Table 3-4. -/
def answerAbortOrder (z : ZoneId) (tag : Half) (s : State) : Answer :=
  match s.queue z with
  | [] => s.deny .notFound
  | head :: rest =>
    if head.tag = tag then
      match head.state with
      | .halting _ => s.deny .wrongState
      | .queued => (s.shrinkQueue z rest).grant (abortFields 0 head)
      | _ =>
        (s.setQueue z ({ head with state := .halting .aborted } :: rest)).grant
          (abortFields 1 head)
    else abortBehind z tag head rest s

/-- One order of the QUERY_ORDERS reply (R58). -/
def Order.bytes (o : Order) : List Byte :=
  Half.bytes o.tag ++ Half.bytes o.handle ++ leBytes 2 o.total ++ [byteOf o.cap] ++
    leBytes 2 o.fired ++ leBytes 2 o.remaining ++ [o.state.code, o.state.reasonCode]

/-- R58. -/
def answerQueryOrders (z : ZoneId) (s : State) : Answer :=
  s.grant (byteOf (s.queue z).length :: (s.queue z).flatMap (·.bytes))

/-! ### Frame planner (R79, R85, R86) -/

/-- Five limits, supply then G0 to G3, two bytes each. -/
def Limits.bytes (l : Limits) : List Byte :=
  leBytes 2 l.supply ++ allGroups.flatMap fun g => leBytes 2 l.group[g]

/-- R79. -/
def answerSetLimits (lim : Limits) (s : State) : Answer :=
  { s with planner := { s.planner with pendingLimits := lim } }.grant
    (lim.bytes ++ s.planner.limits.bytes)

/-- R85: the held plan that governs the present frame. -/
def State.presentPlan (s : State) : Option Plan := s.governing s.mtu.frame s.mtu.len

/-- R85. -/
def answerQueryPlan (z : ZoneId) (s : State) : Answer :=
  let e := s.readEntry s.presentPlan z
  s.grant ([flagByte s.presentPlan.isSome] ++ leBytes 4 s.mtu.frame.toNat ++ [byteOf s.mtu.len] ++
    e.source.bytes ++ [byteOf e.requested, byteOf e.granted] ++ slotSetBytes e.slots)

/-- One zone of the QUERY_FRAME_SUMMARY reply (R86). -/
def SummaryEntry.bytes (e : SummaryEntry) : List Byte :=
  e.source.bytes ++ [byteOf e.requested, byteOf e.granted]

/-- R86. -/
def answerQueryFrameSummary (s : State) : Answer :=
  let y := s.planner.summary
  s.grant (leBytes 4 y.frame.toNat ++ [byteOf y.len, flagByte y.governs] ++ y.limits.bytes ++
    s.planner.pendingLimits.bytes ++ allZones.flatMap fun z => (y.zones[z]).bytes)

/-! ### Switch stage (R99, R100) -/

/-- R99. -/
def answerQueryTally (z : ZoneId) (s : State) : Answer :=
  s.grant ([zoneByte z] ++ leBytes 4 s.switch.fired[z] ++ leBytes 4 s.planner.curtailed[z] ++
    [flagByte (s.drv z)])

/-- R100: does the selector name the zone? -/
def selects (selector : Byte) (z : ZoneId) : Bool := selector == 255 || selector == zoneByte z

/-- R100: the counts of the zones a selector names, summed, stopping at 4 294 967 295. -/
def selectedSum (selector : Byte) (tally : Vector Nat 24) : Nat :=
  min max32 ((allZones.map fun z => if selects selector z then tally[z] else 0).sum)

/-- R100: the tallies with those of the selected zones zeroed. -/
def clearSelected (selector : Byte) (tally : Vector Nat 24) : Vector Nat 24 :=
  Vector.ofFn fun z => if selects selector z then 0 else tally[z]

/-- R100. -/
def answerClearTally (selector : Byte) (s : State) : Answer :=
  { s with
    switch := { s.switch with fired := clearSelected selector s.switch.fired },
    planner := { s.planner with curtailed := clearSelected selector s.planner.curtailed } }.grant
    ([selector] ++ leBytes 4 (selectedSum selector s.switch.fired) ++
      leBytes 4 (selectedSum selector s.planner.curtailed))

/-! ### Supervision unit (R118, R120) -/

/-- R118. -/
def answerSetSupervision (leak : Byte) (offset : Half) (percent limit : Byte) (s : State) : Answer :=
  { s with sup := { s.sup with
      leak := leak.toNat, offset := offset.toNat, percent := percent.toNat,
      limit := limit.toNat } }.grant ([leak] ++ Half.bytes offset ++ [percent, limit])

/-- R120: the last supply check, or a mark that there is none. -/
def checkBytes : Option SupplyCheck → List Byte
  | none => List.replicate 11 0
  | some c =>
    [1] ++ leBytes 4 c.frame.toNat ++ [byteOf c.h] ++ leBytes 2 c.expected ++
      leBytes 2 c.measured ++ [flagByte c.mismatch]

/-- R120: the conduction sample, or a mark that there is none. -/
def sampleBytes : Option Sample → List Byte
  | none => List.replicate 9 0
  | some c => [1] ++ leBytes 4 c.frame.toNat ++ [byteOf c.h] ++ zoneSetBytes c.set

/-- R120. -/
def answerQuerySupervision (s : State) : Answer :=
  let u := s.sup
  s.grant ([byteOf u.leak] ++ leBytes 2 u.offset ++ [byteOf u.percent, byteOf u.limit] ++
    (allZones.flatMap fun z => [byteOf u.openScores[z], byteOf u.stuckScores[z]]) ++
    [byteOf u.supplyScore] ++ checkBytes u.lastCheck ++ sampleBytes u.sample)

/-! ### Group contactor controller (R125, R127, R136, R141, R144, R145) -/

/-- R125 condition 3. -/
def State.anyLockedIn (s : State) (g : GroupId) : Bool :=
  (s.zonesOf g).any fun z => (s.zone z).state == .locked

/-- R125: the close that is taken. -/
def closeTaken (g : GroupId) (s : State) : State :=
  s.setGroup g { s.group g with
    state := .closing, coil := true, timer := s.timerMs .close s.gcc.closeTimeout }

/-- R125. -/
def answerCloseGroup (g : GroupId) (s : State) : Answer :=
  if s.gcc.masterTrip then s.deny .masterTripped
  else if s.gcc.stop then s.deny .stopActive
  else if s.anyLockedIn g then s.deny .zoneLocked
  else if (s.group g).state ≠ .opened then s.deny .wrongState
  else if (s.group g).aux then s.deny .wrongState
  else (closeTaken g s).grant []

/-- R127: the OK reply, with the group's state after the request. -/
def State.grantGroup (s : State) (g : GroupId) : Answer := s.grant [(s.group g).state.code]

/-- R127, Table 7-5. -/
def answerOpenGroup (g : GroupId) (s : State) : Answer :=
  match (s.group g).state with
  | .closed => (openFromClosed g s).grantGroup g
  | .closing => (openFromClosing g s).grantGroup g
  | .opening => s.grantGroup g
  | .opened => s.grantGroup g
  | .tripping => s.deny .wrongState
  | .tripped => s.deny .wrongState
  | .welded => s.deny .wrongState

/-- R141: a stuck-contact timer that is running runs on (R124). -/
def answerAckTrip (g : GroupId) (s : State) : Answer :=
  if (s.group g).state = .tripped then
    (s.setGroup g { s.group g with state := .opened, record := 0 }).grant []
  else s.deny .wrongState

/-- R136: the reply carries the number of groups tripped. -/
def answerTripAll (s : State) : Answer :=
  let r := tripEvery .host s
  r.1.grant [byteOf (groupList r.2.1).length]

/-- R144. -/
def answerSetContactorTiming (close opening verify : Half) (s : State) : Answer :=
  { s with gcc := { s.gcc with
      closeTimeout := close.toNat, openTimeout := opening.toNat,
      verifyWindow := verify.toNat } }.grant
    (Half.bytes close ++ Half.bytes opening ++ Half.bytes verify)

/-- One group of the QUERY_GROUPS reply (R145). -/
def Group.bytes (v : Group) : List Byte :=
  [v.state.code, flagByte v.coil, flagByte v.aux] ++ Half.bytes v.record

/-- R145. -/
def answerQueryGroups (s : State) : Answer :=
  s.grant ((allGroups.flatMap fun g => (s.group g).bytes) ++
    [flagByte s.gcc.masterTrip, flagByte s.gcc.stop])

/-! ### Trip record store (R155 to R157) -/

/-- Byte 5 of the READ_TRIP_RECORD reply (Table 11-10). -/
def TripRecord.flags (r : TripRecord) : Byte :=
  let synthetic := match r.drive with
    | some d => d.synthetic
    | none => false
  (flagByte r.released) ||| (flagByte r.drive.isSome <<< 1) ||| (flagByte r.supply.isSome <<< 2) |||
    (flagByte r.conduction.isSome <<< 3) ||| (flagByte synthetic <<< 4)

/-- Bytes 12 to 20 (Table 11-10): an absent snapshot reads 0. -/
def driveBytes : Option DriveRecord → List Byte
  | none => List.replicate 9 0
  | some d => leBytes 4 d.frame.toNat ++ [byteOf d.h, d.status.code] ++ zoneSetBytes d.set

/-- Bytes 21 to 29. -/
def supplyBytes : Option SupplyCheck → List Byte
  | none => List.replicate 9 0
  | some c => leBytes 4 c.frame.toNat ++ [byteOf c.h] ++ leBytes 2 c.expected ++ leBytes 2 c.measured

/-- Bytes 30 to 37. -/
def conductionBytes : Option Sample → List Byte
  | none => List.replicate 8 0
  | some c => leBytes 4 c.frame.toNat ++ [byteOf c.h] ++ zoneSetBytes c.set

/-- A locked zone with its scores. -/
def LockedZone.bytes (l : LockedZone) : List Byte :=
  [zoneByte l.zone, byteOf l.openScore, byteOf l.stuckScore]

/-- The READ_TRIP_RECORD reply's fields after the result code (Table 11-10). -/
def TripRecord.bytes (r : TripRecord) : List Byte :=
  Half.bytes r.number ++ [r.cause.code, groupSetByte r.groups, r.flags] ++ leBytes 4 r.frame.toNat ++
    [byteOf r.h, r.mains.code] ++ driveBytes r.drive ++ supplyBytes r.supply ++
    conductionBytes r.conduction ++ [groupSetByte r.aux] ++
    (allGroups.map fun g => (r.outcomes[g]).code) ++
    [byteOf r.lockedZones.length] ++ r.lockedZones.flatMap (·.bytes)

/-- R155: the record a READ_TRIP_RECORD names: by number, or the oldest unreleased one for 0. -/
def TripStore.named (t : TripStore) (n : Half) : Option TripRecord :=
  if n = 0 then t.records.find? fun r => !r.released else t.find n

/-- R155. -/
def answerReadTripRecord (n : Half) (s : State) : Answer :=
  match s.store.named n with
  | some r => s.grant r.bytes
  | none => s.deny .notFound

/-- R156. -/
def answerReleaseTripRecord (n : Half) (s : State) : Answer :=
  match s.store.find n with
  | none => s.deny .notFound
  | some r =>
    if r.isPending then s.deny .recordPending
    else { s with store := s.store.update n fun x => { x with released := true } }.grant []

/-- One record of the QUERY_TRIP_STORE reply (R157). -/
def TripRecord.briefBytes (r : TripRecord) : List Byte :=
  Half.bytes r.number ++ [r.cause.code, flagByte r.isPending, flagByte r.released]

/-- R157. -/
def answerQueryTripStore (s : State) : Answer :=
  s.grant ([byteOf s.store.records.length] ++ s.store.records.flatMap (·.briefBytes) ++
    Half.bytes s.store.next ++ leBytes 2 s.store.lost)

/-! ### Routing (R181 step 2, Table 10-3) -/

/-- R181 step 2: the owning block takes a request. -/
def answer (r : Request) (s : State) : Answer :=
  match r with
  | .nop => s.grant []
  | .identify => answerIdentify s
  | .linkSync => answerLinkSync s
  | .setLinkTiming i => answerSetLinkTiming i s
  | .queryLink => answerQueryLink s
  | .setSubscription m => answerSetSubscription m s
  | .queryReportStatus => answerQueryReportStatus s
  | .setFrame l => answerSetFrame l s
  | .queryMains => answerQueryMains s
  | .configZone z g c p o l f ol sl =>
    answerConfigZone (zoneOf z)
      { group := groupNumber g, current := c.toNat, prio := groupNumber p, offset := o.toNat,
        lease := l.toNat, fallback := f.toNat, openLimit := ol.toNat, stuckLimit := sl.toNat } s
  | .enableZone z => answerEnableZone (zoneOf z) s
  | .disableZone z => answerDisableZone (zoneOf z) s
  | .setDemand z d => answerSetDemand (zoneOf z) d.toNat s
  | .clearZone z => answerClearZone (zoneOf z) s
  | .queryZone z => answerQueryZone (zoneOf z) s
  | .queueOrder z t n c => answerQueueOrder (zoneOf z) t n.toNat c.toNat s
  | .abortOrder z t => answerAbortOrder (zoneOf z) t s
  | .queryOrders z => answerQueryOrders (zoneOf z) s
  | .setLimits p a b c d =>
    answerSetLimits { supply := p.toNat, group := #v[a.toNat, b.toNat, c.toNat, d.toNat] } s
  | .queryPlan z => answerQueryPlan (zoneOf z) s
  | .queryFrameSummary => answerQueryFrameSummary s
  | .queryTally z => answerQueryTally (zoneOf z) s
  | .clearTally x => answerClearTally x s
  | .setSupervision l o p m => answerSetSupervision l o p m s
  | .querySupervision => answerQuerySupervision s
  | .closeGroup g => answerCloseGroup (groupNumber g) s
  | .openGroup g => answerOpenGroup (groupNumber g) s
  | .ackTrip g => answerAckTrip (groupNumber g) s
  | .tripAll => answerTripAll s
  | .setContactorTiming c o v => answerSetContactorTiming c o v s
  | .queryGroups => answerQueryGroups s
  | .readTripRecord n => answerReadTripRecord n s
  | .releaseTripRecord n => answerReleaseTripRecord n s
  | .queryTripStore => answerQueryTripStore s

end Sys2Proof.Machine
end

