-- ==== Sys2Proof/Machine/Link.lean ====
section
/-! DEFINITION. The host link controller (Chapter 10): the transmitter, acknowledgements, the handling of
a request frame, the receiver, and the retransmit timer. -/

namespace Sys2Proof.Machine

/-! ### Counters (Table 10-2) -/

/-- Changes the link counters. -/
def State.count (s : State) (f : LinkCounters → LinkCounters) : State :=
  { s with link := { s.link with counters := f s.link.counters } }

/-- A link counter one higher, stopping at 65535. -/
def bump (n : Nat) : Nat := satAdd max16 n 1

/-! ### The transmitter (R182, R183) -/

/-- R183: the payload of a reply: the result code, then the fields. -/
def Reply.payload (r : Reply) : List Byte := r.result.code :: r.fields

/-- R183: the reply frame: the request number in CTRL, SEQ 0. -/
def Reply.frame (r : Reply) : List Byte := frameBytes (r.num.zeroExtend 8) 0 r.type r.payload

/-- R183: the report frame: CTRL bit 6, the entry's sequence number, the kind's type code. -/
def QueueEntry.frame (e : QueueEntry) : List Byte :=
  frameBytes 0x40 e.seq e.report.typeCode e.report.payload

/-- R182 choice 1: the stored reply is taken and its frame begins. -/
def beginReply (r : Reply) (s : State) : State :=
  { s with link := { s.link with
      tx := .reply r.frame, replyPending := false,
      counters := { s.link.counters with repliesSent := bump s.link.counters.repliesSent } } }

/-- R182 choice 2: a report taken from the queue begins. -/
def beginReport (e : QueueEntry) (q : ReportQueue) (s : State) : State :=
  { s with
    reports := q,
    link := { s.link with
      tx := .report e.frame,
      counters := { s.link.counters with reportsSent := bump s.link.counters.reportsSent } } }

/-- R182 choices 2 and 3: the oldest unsent report within the window, or idle. -/
def chooseReport (s : State) : State :=
  match s.reports.takeReport with
  | some (e, q) => beginReport e q s
  | none => s

/-- R182: the transmitter's choice, made only while it is idle. It is made at the end of each happening that
R182 names: an acknowledgement that removes entries (in `applyAck`), the handling of the request after it,
and otherwise the command itself (DEDUCED, notes/assumptions/6.md). -/
def txChoose (s : State) : State :=
  match s.link.tx with
  | .idle =>
    if s.link.replyPending then
      match s.link.stored with
      | some r => beginReply r s
      | none => chooseReport s
    else chooseReport s
  | .reply _ => s
  | .report _ => s

/-! ### The retransmit timer (R184, R185) -/

/-- R184: started or restarted with the interval in force. -/
def startRetransmit (s : State) : State :=
  { s with link := { s.link with retransmitAt := some (s.afterMs s.link.interval) } }

/-- R184: stopped. -/
def stopRetransmit (s : State) : State := { s with link := { s.link with retransmitAt := none } }

/-- R184: the frame on TXD ends; a report frame's end starts a stopped timer while an entry is
sent-unacknowledged. -/
def frameEnds (s : State) : State :=
  match s.link.tx with
  | .idle => s
  | .reply _ => txChoose { s with link := { s.link with tx := .idle } }
  | .report _ =>
    let s1 := { s with link := { s.link with tx := .idle } }
    txChoose (if s.link.retransmitAt.isNone && decide (0 < s.reports.sentCount) then
      startRetransmit s1 else s1)

/-- R185: the retransmit timer expires, at its instant; a stopped timer does not. -/
def retransmitExpiry (s : State) : State :=
  match s.link.retransmitAt with
  | none => s
  | some t =>
    let s1 := stopRetransmit (s.atTime t)
    txChoose ({ s1 with reports := s1.reports.returnSent }.count fun c =>
      { c with retransmit := bump c.retransmit })

/-! ### Handling a request frame (R177 to R181) -/

/-- R178, R184: an acknowledgement that advances restarts the timer if an entry remains
sent-unacknowledged, and stops it if none does. -/
def ackAdvances (s : State) : State :=
  if 0 < s.reports.sentCount then startRetransmit s else stopRetransmit s

/-- R178: the acknowledgement of a frame. Where it removes entries, an idle transmitter chooses at its end,
before the request is handled (R182; DEDUCED, notes/assumptions/6.md). -/
def applyAck (a : Byte) (s : State) : State :=
  if s.reports.ackInRange a then
    let n := s.reports.ackCount a
    if n = 0 then s else txChoose (ackAdvances { s with reports := s.reports.removeOldest n })
  else s.count fun c => { c with ackRange := bump c.ackRange }

/-- R190: the TYPE of the reply to a request: its type with 0x40 added; 0x40 to an unknown one. -/
def replyType (type : Byte) (code : ResultCode) : Byte :=
  if code = .unknownRequest then 0x40 else type + 0x40

/-- R181 step 3: the reply is stored and pending, and the number is the last. -/
def storeReply (num : BitVec 4) (type : Byte) (code : ResultCode) (fields : List Byte) (s : State) :
    State :=
  { s with link := { s.link with
      stored := some { num := num, type := replyType type code, result := code, fields := fields },
      lastNum := some num, replyPending := true,
      counters := { s.link.counters with executed := bump s.link.counters.executed } } }

/-- R181, R191: a request is executed: validated, then routed to its owner. -/
def execute (num : BitVec 4) (type : Byte) (p : Parsed) (s : State) : State :=
  match p with
  | .error code => storeReply num type code [] s
  | .ok r =>
    if r.inRange s.mtu.len then
      let a := answer r s
      storeReply num type a.result a.fields a.state
    else storeReply num type .range [] s

/-- R180: the stored reply answers a repeated request. -/
def replay (s : State) : State :=
  { s with link := { s.link with replyPending := true } }.count fun c =>
    { c with duplicate := bump c.duplicate }

/-- R180: a frame that repeats the last request number and is not LINK_SYNC. -/
def State.repeats (s : State) (num : BitVec 4) (type : Byte) : Bool :=
  s.link.lastNum == some num && type != 0x03

/-- R179 to R181: what becomes of a request after its acknowledgement. -/
def handleRequest (num : BitVec 4) (type : Byte) (p : Parsed) (s : State) : State :=
  if s.link.replyPending then s.count fun c => { c with busyDrop := bump c.busyDrop }
  else if s.repeats num type then replay s
  else execute num type p s

/-- R177 to R182: a frame that passes its CRC and control checks: counted, its acknowledgement applied with
the choice that may end it, its request handled, and the transmitter's choice. -/
def serveFrame (num : BitVec 4) (ack type : Byte) (p : Parsed) (s : State) : State :=
  txChoose (handleRequest num type p (applyAck ack (s.count fun c =>
    { c with framesReceived := bump c.framesReceived })))

/-- A request command: its frame is complete at the header's instant (DESIGN CHOICE,
notes/assumptions/7.md). -/
def serve (hd : Header) (r : Request) (s : State) : State :=
  serveFrame hd.num hd.ack r.typeCode (.ok r) (s.atTime hd.time)

/-! ### The receiver (R176, R177) -/

/-- The receiver hunting, with no bytes and its timer stopped. -/
def Receiver.idle : Receiver := { state := .hunting, bytes := [], gap := none }

/-- Writes the receiver. -/
def State.setRx (s : State) (r : Receiver) : State := { s with link := { s.link with rx := r } }

/-- A byte is kept: the receiver takes a state, and the byte-gap timer restarts (R176). -/
def keepByte (st : RxState) (b : Byte) (s : State) : State :=
  s.setRx { state := st, bytes := s.link.rx.bytes ++ [b], gap := some (s.now + Config.byteGap) }

/-- R176: a frame abandoned for a byte gap or a stop-bit error. -/
def abandonFraming (s : State) : State :=
  (s.setRx .idle).count fun c => { c with framing := bump c.framing }

/-- The LEN byte of the frame being assembled. -/
def Receiver.len (r : Receiver) : Nat := (r.bytes.getD 1 0).toNat

/-- R177: a complete frame whose CRC agrees, as its bytes after SYNC and LEN. -/
def validFrame (ctrl seq type : Byte) (payload : List Byte) (s : State) : State :=
  if ctrl.extractLsb' 4 4 = 0 then
    serveFrame (ctrl.extractLsb' 0 4) seq type (parseRequest type payload) s
  else s.count fun c => { c with control := bump c.control }

/-- R176: the CRC of a complete frame's bytes, SYNC first, agrees with its last two bytes. -/
def crcAgrees (bytes : List Byte) : Bool :=
  leBytes 2 (crc16 ((bytes.drop 1).take (bytes.length - 3))).toNat == bytes.drop (bytes.length - 2)

/-- R176, R177: a complete frame, SYNC first, is checked; the receiver is already hunting. -/
def frameComplete (bytes : List Byte) (s : State) : State :=
  if crcAgrees bytes then
    validFrame (bytes.getD 2 0) (bytes.getD 3 0) (bytes.getD 4 0)
      ((bytes.drop 5).take (bytes.length - 7)) s
  else s.count fun c => { c with crc := bump c.crc }

/-- R176: a byte with a good stop bit, by the receiver's state. -/
def goodByte (b : Byte) (s : State) : State :=
  let r := s.link.rx
  match r.state with
  | .hunting => if b = syncByte then keepByte .header b s else s
  | .header =>
    if within 3 251 b.toNat then keepByte .body b s
    else (s.setRx .idle).count fun c => { c with length := bump c.length }
  | .body => keepByte (if r.bytes.length + 1 = r.len + 2 then .check else .body) b s
  | .check =>
    if r.bytes.length + 1 = r.len + 4 then frameComplete (r.bytes ++ [b]) (s.setRx .idle)
    else keepByte .check b s

/-- R176: a byte on RXD. -/
def receiveByte (b : Byte) (stopOk : Bool) (s : State) : State :=
  if stopOk then goodByte b s
  else if s.link.rx.state = .hunting then s else abandonFraming s

/-- R176: the byte-gap timer has run out before the instant `t`. -/
def State.gapOver (s : State) (t : Nat) : Bool :=
  match s.link.rx.gap with
  | some e => decide (e < t)
  | none => false

/-- R176: the byte gap, at its instant; a stopped timer does not run out. -/
def gapExpiry (s : State) : State :=
  match s.link.rx.gap with
  | some e => abandonFraming (s.atTime e)
  | none => s

/-- R176: a byte of the instant `t`, taken there or at the present instant, whichever is later, after a byte
gap that ran out before it is taken (DEDUCED, notes/assumptions/4.md). -/
def byteAt (t : Nat) (b : Byte) (stopOk : Bool) (s : State) : State :=
  receiveByte b stopOk ((if s.gapOver (max s.now t) then gapExpiry s else s).atTime t)

/-! ### Resets (R154, R172) -/

/-- R172: STARTUP enters the empty queue and the transmitter takes it (R182). -/
def startUp (cause : ResetCause) (s : State) : State :=
  txChoose (submit (.startup cause s.store.records.length) s)

/-- POWER_ON (R147, R172): every block at its power-on values; the raw lines keep their levels. -/
def applyPower (t : Nat) (straps : Straps) (s : State) : State :=
  startUp .powerOn (State.blank (max s.now t) straps (Vector.ofFn fun g => (s.group g).rawAux)
    s.gcc.rawStop .powerOn s.pending)

/-- PIN_RESET (R154, R172): every block but the trip record store. -/
def applyPin (t : Nat) (straps : Straps) (s : State) : State :=
  startUp .pin (State.blank (max s.now t) straps (Vector.ofFn fun g => (s.group g).rawAux)
    s.gcc.rawStop s.store.pinReset s.pending)

end Sys2Proof.Machine
end

