-- ==== Sys2Proof/Machine/Events.lean ====
section
/-! DEFINITION. The meanings of the happenings: resets, mains, sensing, contactor inputs and timers, and
the serial line. One definition per row of the opcode table. -/

namespace Sys2Proof.Machine

/-- What a command answers. -/
abbrev Result := Host.Outcome State Fault Refusal

/-! ### Resets -/

/-- POWER_ON (R147, R172). -/
def execPowerOn (time : Nat) (straps : Straps) (s : State) : Result :=
  .next (applyPower time straps s)

/-- PIN_RESET (R154, R172). -/
def execPinReset (time : Nat) (straps : Straps) (s : State) : Result :=
  .next (applyPin time straps s)

/-! ### Mains -/

/-- ZX_EDGE (R2 to R5, R7, R12). -/
def execZxEdge (time : Nat) (order : List Taker) (s : State) : Result :=
  .next (txChoose (edgeAt order time s))

/-- WINDOW_EXPIRY (R8, R11); only LOCKED has a window. -/
def execWindowExpiry (order : List Taker) (s : State) : Result :=
  .next (if s.isLocked then txChoose (expireWindow order s) else s)

/-- MID_HALF_CYCLE_POINT (R9): once in each locked half-cycle, at its instant. -/
def execMidHalfCyclePoint (cs : ZoneSet) (contactorsFirst : Bool) (s : State) : Result :=
  .next
    (match s.mtu.midDue with
    | some t => if s.isLocked then txChoose (midPoint cs contactorsFirst (s.atTime t)) else s
    | none => s)

/-- ISENSE_READING (R112). -/
def execIsenseReading (value : BitVec 12) (s : State) : Result :=
  .next (takeReading value.toNat s)

/-! ### Contactor inputs -/

/-- RAW_INPUT_CHANGE (R123). -/
def execRawInputChange (time : Nat) (line : RawLine) (level : Bool) (s : State) : Result :=
  .next (rawChange line level (s.atTime time))

/-- AUX_CHANGE (R123, R126, R129 to R131, R138). -/
def execAuxChange (g : GroupId) (s : State) : Result :=
  .next (if (s.group g).rawAuxSince.isSome then txChoose (auxChange g s) else s)

/-- STOP_CHANGE (R123, R137). -/
def execStopChange (s : State) : Result :=
  .next (if s.gcc.rawStopSince.isSome then txChoose (stopChange s) else s)

/-! ### Contactor timers -/

/-- CLOSE_TIMER_EXPIRY (R126). -/
def execCloseTimerExpiry (g : GroupId) (s : State) : Result :=
  .next (onExpiry g .close (fun x => txChoose (closeFailed g x)) s)

/-- RELEASE_DEADLINE_EXPIRY (R128). -/
def execReleaseDeadlineExpiry (g : GroupId) (s : State) : Result :=
  .next (onExpiry g .release (releaseCoil g) s)

/-- R129: the open timer expires with the aux still closed. -/
def openExpired (g : GroupId) (s : State) : State :=
  if (s.group g).aux then weld g .openTimeout s else s

/-- OPEN_TIMER_EXPIRY (R129, R142). -/
def execOpenTimerExpiry (g : GroupId) (s : State) : Result :=
  .next (onExpiry g .opening (fun x => txChoose (openExpired g x)) s)

/-- R140: one more test, and a weld if the group is still not verified. -/
def verifyExpired (g : GroupId) (s : State) : State :=
  if s.verified g then verifyGroup g s else weld g .verifyTimeout s

/-- VERIFY_TIMER_EXPIRY (R140, R142). -/
def execVerifyTimerExpiry (g : GroupId) (s : State) : Result :=
  .next (onExpiry g .verify (fun x => txChoose (verifyExpired g x)) s)

/-- STUCK_CONTACT_TIMER_EXPIRY (R131, R142). -/
def execStuckContactTimerExpiry (g : GroupId) (s : State) : Result :=
  .next (onExpiry g .stuckContact (fun x => txChoose (weld g .auxStuck x)) s)

/-! ### Serial line -/

/-- RX_BYTE (R176, R177). -/
def execRxByte (time : Nat) (byte : Byte) (stopOk : Bool) (s : State) : Result :=
  .next (byteAt time byte stopOk s)

/-- BYTE_GAP_TIMEOUT (R176). -/
def execByteGapTimeout (s : State) : Result := .next (gapExpiry s)

/-- TX_FRAME_END (R182, R184). -/
def execTxFrameEnd (time : Nat) (s : State) : Result := .next (frameEnds (s.atTime time))

/-- RETRANSMIT_TIMER_EXPIRY (R185). -/
def execRetransmitTimerExpiry (s : State) : Result := .next (retransmitExpiry s)

end Sys2Proof.Machine
end

