-- ==== Sys2Proof/Machine/RequestCommands.lean ====
section
/-! DEFINITION. The meanings of the 34 request commands, one definition per row of the opcode table. Each
is a complete request frame: its acknowledgement, busy and repeat tests, validation, its owner's answer
(Requests.lean) and its reply (R177 to R182, R191). -/

namespace Sys2Proof.Machine

/-- NOP (R187). -/
def execNop (hd : Header) (s : State) : Result :=
  .next (serve hd .nop s)

/-- IDENTIFY (R187). -/
def execIdentify (hd : Header) (s : State) : Result :=
  .next (serve hd .identify s)

/-- LINK_SYNC (R186, R173). -/
def execLinkSync (hd : Header) (s : State) : Result :=
  .next (serve hd .linkSync s)

/-- SET_LINK_TIMING (R188). -/
def execSetLinkTiming (hd : Header) (interval : Half) (s : State) : Result :=
  .next (serve hd (.setLinkTiming interval) s)

/-- QUERY_LINK (R189). -/
def execQueryLink (hd : Header) (s : State) : Result :=
  .next (serve hd .queryLink s)

/-- SET_SUBSCRIPTION (R170). -/
def execSetSubscription (hd : Header) (mask : Byte) (s : State) : Result :=
  .next (serve hd (.setSubscription mask) s)

/-- QUERY_REPORT_STATUS (R171). -/
def execQueryReportStatus (hd : Header) (s : State) : Result :=
  .next (serve hd .queryReportStatus s)

/-- SET_FRAME (R13). -/
def execSetFrame (hd : Header) (len : Byte) (s : State) : Result :=
  .next (serve hd (.setFrame len) s)

/-- QUERY_MAINS (R14). -/
def execQueryMains (hd : Header) (s : State) : Result :=
  .next (serve hd .queryMains s)

/-- CONFIG_ZONE (R19). -/
def execConfigZone (hd : Header) (zone : Byte) (group : Byte) (current : Half) (prio : Byte) (offset : Byte) (lease : Byte) (fallback : Byte) (openLimit : Byte) (stuckLimit : Byte)
    (s : State) : Result :=
  .next (serve hd (.configZone zone group current prio offset lease fallback openLimit stuckLimit) s)

/-- ENABLE_ZONE (R20). -/
def execEnableZone (hd : Header) (zone : Byte) (s : State) : Result :=
  .next (serve hd (.enableZone zone) s)

/-- DISABLE_ZONE (R21). -/
def execDisableZone (hd : Header) (zone : Byte) (s : State) : Result :=
  .next (serve hd (.disableZone zone) s)

/-- SET_DEMAND (R22). -/
def execSetDemand (hd : Header) (zone : Byte) (demand : Byte) (s : State) : Result :=
  .next (serve hd (.setDemand zone demand) s)

/-- CLEAR_ZONE (R36, R37). -/
def execClearZone (hd : Header) (zone : Byte) (s : State) : Result :=
  .next (serve hd (.clearZone zone) s)

/-- QUERY_ZONE (R38). -/
def execQueryZone (hd : Header) (zone : Byte) (s : State) : Result :=
  .next (serve hd (.queryZone zone) s)

/-- QUEUE_ORDER (R44, R43, R27). -/
def execQueueOrder (hd : Header) (zone : Byte) (tag : Half) (total : Half) (cap : Byte)
    (s : State) : Result :=
  .next (serve hd (.queueOrder zone tag total cap) s)

/-- ABORT_ORDER (R50, R51). -/
def execAbortOrder (hd : Header) (zone : Byte) (tag : Half) (s : State) : Result :=
  .next (serve hd (.abortOrder zone tag) s)

/-- QUERY_ORDERS (R58). -/
def execQueryOrders (hd : Header) (zone : Byte) (s : State) : Result :=
  .next (serve hd (.queryOrders zone) s)

/-- SET_LIMITS (R79). -/
def execSetLimits (hd : Header) (supply : Half) (g0 : Half) (g1 : Half) (g2 : Half) (g3 : Half)
    (s : State) : Result :=
  .next (serve hd (.setLimits supply g0 g1 g2 g3) s)

/-- QUERY_PLAN (R85). -/
def execQueryPlan (hd : Header) (zone : Byte) (s : State) : Result :=
  .next (serve hd (.queryPlan zone) s)

/-- QUERY_FRAME_SUMMARY (R86). -/
def execQueryFrameSummary (hd : Header) (s : State) : Result :=
  .next (serve hd .queryFrameSummary s)

/-- QUERY_TALLY (R99). -/
def execQueryTally (hd : Header) (zone : Byte) (s : State) : Result :=
  .next (serve hd (.queryTally zone) s)

/-- CLEAR_TALLY (R100). -/
def execClearTally (hd : Header) (selector : Byte) (s : State) : Result :=
  .next (serve hd (.clearTally selector) s)

/-- SET_SUPERVISION (R118, R119). -/
def execSetSupervision (hd : Header) (leak : Byte) (offset : Half) (percent : Byte) (limit : Byte)
    (s : State) : Result :=
  .next (serve hd (.setSupervision leak offset percent limit) s)

/-- QUERY_SUPERVISION (R120). -/
def execQuerySupervision (hd : Header) (s : State) : Result :=
  .next (serve hd .querySupervision s)

/-- CLOSE_GROUP (R125). -/
def execCloseGroup (hd : Header) (group : Byte) (s : State) : Result :=
  .next (serve hd (.closeGroup group) s)

/-- OPEN_GROUP (R127). -/
def execOpenGroup (hd : Header) (group : Byte) (s : State) : Result :=
  .next (serve hd (.openGroup group) s)

/-- ACK_TRIP (R141). -/
def execAckTrip (hd : Header) (group : Byte) (s : State) : Result :=
  .next (serve hd (.ackTrip group) s)

/-- TRIP_ALL (R136). -/
def execTripAll (hd : Header) (s : State) : Result :=
  .next (serve hd .tripAll s)

/-- SET_CONTACTOR_TIMING (R144). -/
def execSetContactorTiming (hd : Header) (close : Half) (opening : Half) (verify : Half)
    (s : State) : Result :=
  .next (serve hd (.setContactorTiming close opening verify) s)

/-- QUERY_GROUPS (R145). -/
def execQueryGroups (hd : Header) (s : State) : Result :=
  .next (serve hd .queryGroups s)

/-- READ_TRIP_RECORD (R155). -/
def execReadTripRecord (hd : Header) (number : Half) (s : State) : Result :=
  .next (serve hd (.readTripRecord number) s)

/-- RELEASE_TRIP_RECORD (R156). -/
def execReleaseTripRecord (hd : Header) (number : Half) (s : State) : Result :=
  .next (serve hd (.releaseTripRecord number) s)

/-- QUERY_TRIP_STORE (R157). -/
def execQueryTripStore (hd : Header) (s : State) : Result :=
  .next (serve hd .queryTripStore s)

end Sys2Proof.Machine
end

