-- ==== Sys2Proof/Machine/Dispatch.lean ====
section
/-! DEFINITION. exec: one arm per command, each a direct call of its meaning. -/

namespace Sys2Proof.Machine

def exec (i : Instr) (s : State) : Host.Outcome State Fault Refusal :=
  match i with
  | .powerOn time straps => Sys2Proof.Machine.execPowerOn time straps s
  | .pinReset time straps => Sys2Proof.Machine.execPinReset time straps s
  | .zxEdge time order => Sys2Proof.Machine.execZxEdge time order s
  | .windowExpiry order => Sys2Proof.Machine.execWindowExpiry order s
  | .midHalfCyclePoint cs contactorsFirst => Sys2Proof.Machine.execMidHalfCyclePoint cs contactorsFirst s
  | .isenseReading value => Sys2Proof.Machine.execIsenseReading value s
  | .auxChange g => Sys2Proof.Machine.execAuxChange g s
  | .stopChange => Sys2Proof.Machine.execStopChange s
  | .closeTimerExpiry g => Sys2Proof.Machine.execCloseTimerExpiry g s
  | .releaseDeadlineExpiry g => Sys2Proof.Machine.execReleaseDeadlineExpiry g s
  | .openTimerExpiry g => Sys2Proof.Machine.execOpenTimerExpiry g s
  | .verifyTimerExpiry g => Sys2Proof.Machine.execVerifyTimerExpiry g s
  | .stuckContactTimerExpiry g => Sys2Proof.Machine.execStuckContactTimerExpiry g s
  | .rxByte time byte stopOk => Sys2Proof.Machine.execRxByte time byte stopOk s
  | .byteGapTimeout => Sys2Proof.Machine.execByteGapTimeout s
  | .txFrameEnd time => Sys2Proof.Machine.execTxFrameEnd time s
  | .retransmitTimerExpiry => Sys2Proof.Machine.execRetransmitTimerExpiry s
  | .nop hd => Sys2Proof.Machine.execNop hd s
  | .identify hd => Sys2Proof.Machine.execIdentify hd s
  | .linkSync hd => Sys2Proof.Machine.execLinkSync hd s
  | .setLinkTiming hd interval => Sys2Proof.Machine.execSetLinkTiming hd interval s
  | .queryLink hd => Sys2Proof.Machine.execQueryLink hd s
  | .setSubscription hd mask => Sys2Proof.Machine.execSetSubscription hd mask s
  | .queryReportStatus hd => Sys2Proof.Machine.execQueryReportStatus hd s
  | .setFrame hd len => Sys2Proof.Machine.execSetFrame hd len s
  | .queryMains hd => Sys2Proof.Machine.execQueryMains hd s
  | .configZone hd zone group current prio offset lease fallback openLimit stuckLimit => Sys2Proof.Machine.execConfigZone hd zone group current prio offset lease fallback openLimit stuckLimit s
  | .enableZone hd zone => Sys2Proof.Machine.execEnableZone hd zone s
  | .disableZone hd zone => Sys2Proof.Machine.execDisableZone hd zone s
  | .setDemand hd zone demand => Sys2Proof.Machine.execSetDemand hd zone demand s
  | .clearZone hd zone => Sys2Proof.Machine.execClearZone hd zone s
  | .queryZone hd zone => Sys2Proof.Machine.execQueryZone hd zone s
  | .queueOrder hd zone tag total cap => Sys2Proof.Machine.execQueueOrder hd zone tag total cap s
  | .abortOrder hd zone tag => Sys2Proof.Machine.execAbortOrder hd zone tag s
  | .queryOrders hd zone => Sys2Proof.Machine.execQueryOrders hd zone s
  | .setLimits hd supply g0 g1 g2 g3 => Sys2Proof.Machine.execSetLimits hd supply g0 g1 g2 g3 s
  | .queryPlan hd zone => Sys2Proof.Machine.execQueryPlan hd zone s
  | .queryFrameSummary hd => Sys2Proof.Machine.execQueryFrameSummary hd s
  | .queryTally hd zone => Sys2Proof.Machine.execQueryTally hd zone s
  | .clearTally hd selector => Sys2Proof.Machine.execClearTally hd selector s
  | .setSupervision hd leak offset percent limit => Sys2Proof.Machine.execSetSupervision hd leak offset percent limit s
  | .querySupervision hd => Sys2Proof.Machine.execQuerySupervision hd s
  | .closeGroup hd group => Sys2Proof.Machine.execCloseGroup hd group s
  | .openGroup hd group => Sys2Proof.Machine.execOpenGroup hd group s
  | .ackTrip hd group => Sys2Proof.Machine.execAckTrip hd group s
  | .tripAll hd => Sys2Proof.Machine.execTripAll hd s
  | .setContactorTiming hd close opening verify => Sys2Proof.Machine.execSetContactorTiming hd close opening verify s
  | .queryGroups hd => Sys2Proof.Machine.execQueryGroups hd s
  | .readTripRecord hd number => Sys2Proof.Machine.execReadTripRecord hd number s
  | .releaseTripRecord hd number => Sys2Proof.Machine.execReleaseTripRecord hd number s
  | .queryTripStore hd => Sys2Proof.Machine.execQueryTripStore hd s
  | .rawInputChange time line level => Sys2Proof.Machine.execRawInputChange time line level s

end Sys2Proof.Machine
end

