-- ==== Sys2Proof/Safety.lean ====
section
/-! DEFINITION. What a sound state of the ZS24 is, block by block, in the terms the rules use for what
always holds, and the words in which the statements speak of requests (the state in which a request is
taken, the reply that is stored, the bytes of a request frame on the line) and of halts, withdrawals, trips,
welds and the leak, each said as one change of State. -/

namespace Sys2Proof.Machine

/-! ### Sound states -/

/-- Table 1-1, R5, R6, R11, R12: the ranges of the mains timing unit and what each mains state
fixes. -/
def Mtu.sound (m : Mtu) : Prop :=
  m.history.length ≤ Config.lockRun ∧
  (∀ i ∈ m.history, Config.shortestValid ≤ i ∧ i ≤ Config.window) ∧
  m.period = periodOf m.history ∧
  (8 ≤ m.len ∧ m.len ≤ 128) ∧ (8 ≤ m.pendingLen ∧ m.pendingLen ≤ 128) ∧
  m.glitches ≤ max16 ∧ m.coasts ≤ max16 ∧
  (m.state = .searching → m.h = 0 ∧ m.run = m.history.length ∧ m.run < Config.lockRun) ∧
  (m.state = .locked → m.history.length = Config.lockRun ∧ m.run = 0 ∧ m.h < m.len ∧
    m.refTime.isSome) ∧
  (m.state = .lost → m.refTime = none) ∧
  (m.state ≠ .locked → m.coast = false ∧ m.midDue = none ∧ m.len = m.pendingLen)

/-- Table 2-1: the configuration fields lie in their ranges. -/
def ZoneConfig.sound (c : ZoneConfig) : Prop :=
  (1 ≤ c.current ∧ c.current ≤ 500) ∧ c.offset ≤ 127 ∧ c.lease ≤ 255 ∧ c.fallback ≤ 128 ∧
  (1 ≤ c.openLimit ∧ c.openLimit ≤ 255) ∧ (1 ≤ c.stuckLimit ∧ c.stuckLimit ≤ 255)

/-- Tables 2-2 and 2-3, R17, R18: what a zone's state fixes of its demand, its lease, its configured
flag and its orders. -/
def Zone.sound (len : Nat) (v : Zone) (q : List Order) : Prop :=
  v.cfg.sound ∧
  (v.state = .demand → (1 ≤ v.demand ∧ v.demand ≤ len) ∧ v.leaseLeft ≤ v.cfg.lease) ∧
  (v.state ≠ .demand → v.demand = 0 ∧ v.leaseLeft = 0) ∧
  (v.state ≠ .disabled → v.configured = true) ∧
  (v.state = .dosing → q ≠ []) ∧
  (v.state ≠ .dosing → ∀ o ∈ q, o.isHalting = true)

/-- Table 3-1, R41: the counts of a held order, by its state. -/
def Order.sound (o : Order) : Prop :=
  o.tag ≠ 0 ∧ o.fired + o.remaining = o.total ∧ 1 ≤ o.remaining ∧ (1 ≤ o.cap ∧ o.cap ≤ 128) ∧
  (o.state = .queued → o.fired = 0) ∧ (o.state = .planned → o.fired = 0) ∧
  (o.state = .active → 1 ≤ o.fired)

/-- R42: at most four orders, no two of one tag, and only the head ACTIVE or HALTING. -/
def queueSound (q : List Order) : Prop :=
  q.length ≤ Config.queueDepth ∧ (q.map (·.tag)).Nodup ∧ (∀ o ∈ q, o.sound) ∧
  ∀ o ∈ q.tail, o.state = .queued ∨ o.state = .planned

/-- R18, R41, R42, R55: the zone table and the order unit. While the mains is not LOCKED every held
order is QUEUED. -/
def State.zonesSound (s : State) : Prop :=
  (∀ z, (s.zone z).sound s.mtu.len (s.queue z)) ∧ (∀ z, queueSound (s.queue z)) ∧
  (s.mtu.state ≠ .locked → ∀ z, ∀ o ∈ s.queue z, o.state = .queued)

/-- The sum of the placed currents of the zones that a plan holds at slot h and that `p` picks. -/
def Plan.currentAt (p : Plan) (h : Nat) (pick : Entry → Bool) : Nat :=
  (allZones.map fun z =>
    if p.entries[z].slots.contains h && pick p.entries[z] then p.entries[z].current else 0).sum

/-- R63: a plan record: each entry's slot set and counts, and each slot's sums within the limits. -/
def Plan.sound (p : Plan) : Prop :=
  p.sums.length = p.len ∧
  (∀ z : ZoneId, (p.entries[z]).slots.Nodup ∧ (∀ h ∈ (p.entries[z]).slots, h < p.len) ∧
    (p.entries[z]).granted = (p.entries[z]).slots.length ∧
    (p.entries[z]).granted ≤ (p.entries[z]).requested ∧ (p.entries[z]).requested ≤ p.len ∧
    ((p.entries[z]).source = .none → (p.entries[z]).requested = 0)) ∧
  ∀ h < p.len,
    (p.sums.getD h .zero).supply = p.currentAt h (fun _ => true) ∧
    (p.sums.getD h .zero).supply ≤ p.limits.supply ∧
    ∀ g : GroupId, (p.sums.getD h .zero).group[g] = p.currentAt h (fun e => e.group == g) ∧
      (p.sums.getD h .zero).group[g] ≤ p.limits.group[g]

/-- R62 to R66, R81: while LOCKED the planner holds a plan committed for the present frame and one
under construction for the next, both sound; while not LOCKED it holds none. -/
def State.planSound (s : State) : Prop :=
  (∀ p, s.planner.committed = some p → p.sound) ∧ (∀ p, s.planner.building = some p → p.sound) ∧
  (s.mtu.state = .locked →
    (∃ p, s.planner.committed = some p ∧ p.frame = s.mtu.frame ∧ p.len = s.mtu.len) ∧
    (∃ p, s.planner.building = some p ∧ p.frame = s.mtu.frame + 1 ∧ p.len = s.mtu.len)) ∧
  (s.mtu.state ≠ .locked → s.planner.committed = none ∧ s.planner.building = none) ∧
  (s.planner.summary.governs = true ↔ s.mtu.state = .locked) ∧
  ∀ z : ZoneId, s.planner.curtailed[z] ≤ max32

/-- R88, R93 to R95: the drive lines are the set of the open present record, whose current is within
the supply limit of the committed plan; no line is asserted while the mains is not LOCKED. -/
def State.driveSound (s : State) : Prop :=
  (s.mtu.state = .locked → ∃ r, s.switch.present = some r ∧ r.status = .opened ∧
    r.frame = s.mtu.frame ∧ r.h = s.mtu.h ∧ s.switch.lines = r.set ∧
    ∀ p, s.planner.committed = some p → r.current ≤ p.limits.supply) ∧
  (s.mtu.state ≠ .locked →
    s.switch.lines = 0 ∧ ∀ r, s.switch.present = some r → r.status = .cutShort) ∧
  (∀ r, s.switch.previous = some r → r.status ≠ .opened) ∧
  ∀ z : ZoneId, s.switch.fired[z] ≤ max32

/-- Table 6-1, R108, R109: the scores, their limits and the states they latch. -/
def State.scoresSound (s : State) : Prop :=
  (∀ z : ZoneId,
    s.sup.openScores[z] ≤ (s.zone z).cfg.openLimit ∧
    (s.sup.openScores[z] = (s.zone z).cfg.openLimit →
      (s.zone z).state = .faulted ∨ (s.zone z).state = .locked) ∧
    ((s.zone z).state = .faulted → s.sup.openScores[z] = (s.zone z).cfg.openLimit) ∧
    s.sup.stuckScores[z] ≤ (s.zone z).cfg.stuckLimit ∧
    (s.sup.stuckScores[z] = (s.zone z).cfg.stuckLimit ↔ (s.zone z).state = .locked)) ∧
  (1 ≤ s.sup.limit ∧ s.sup.limit ≤ 255) ∧ s.sup.supplyScore ≤ 255 ∧ s.sup.leak ≤ 15 ∧
  s.sup.offset ≤ 500 ∧ s.sup.percent ≤ 50

/-- Table 7-2: the kind of timer that runs in a group's state. -/
def Group.timerDue (v : Group) : Option TimerKind :=
  match v.state with
  | .opened => if v.aux then some .stuckContact else none
  | .closing => some .close
  | .closed => none
  | .opening => if v.releasePending then some .release else some .opening
  | .tripping => some .verify
  | .tripped => if v.aux then some .stuckContact else none
  | .welded => none

/-- Tables 7-1 to 7-3, R123, R124: what a group's state fixes of its coil, aux, timer and record. -/
def Group.sound (v : Group) : Prop :=
  (v.coil = true ↔
    v.state = .closing ∨ v.state = .closed ∨ (v.state = .opening ∧ v.releasePending = true)) ∧
  (v.releasePending = true → v.state = .opening) ∧
  v.timer.map (·.kind) = v.timerDue ∧
  (v.state = .closing → v.aux = false) ∧
  (v.state = .closed → v.aux = true) ∧
  (v.state = .opening → v.aux = true) ∧
  (v.record ≠ 0 → v.state = .tripping ∨ v.state = .tripped ∨ v.state = .welded) ∧
  (v.rawAuxSince.isSome = true ↔ v.rawAux ≠ v.aux)

/-- The group may carry current: CLOSING or CLOSED. -/
def Group.live (v : Group) : Prop := v.state = .closing ∨ v.state = .closed

/-- R122 to R124, R137, R143: the contactor controller. No group is CLOSING or CLOSED while the
master-trip latch is set or STOP is asserted, and a WELDED group has set the latch. -/
def State.groupsSound (s : State) : Prop :=
  (∀ g, (s.group g).sound) ∧
  (s.gcc.masterTrip = true → ∀ g, ¬ (s.group g).live) ∧
  (s.gcc.stop = true → ∀ g, ¬ (s.group g).live) ∧
  (∀ g, (s.group g).state = .welded → s.gcc.masterTrip = true) ∧
  (s.gcc.rawStopSince.isSome = true ↔ s.gcc.rawStop ≠ s.gcc.stop) ∧
  (20 ≤ s.gcc.closeTimeout ∧ s.gcc.closeTimeout ≤ 1000) ∧
  (20 ≤ s.gcc.openTimeout ∧ s.gcc.openTimeout ≤ 1000) ∧
  (20 ≤ s.gcc.verifyWindow ∧ s.gcc.verifyWindow ≤ 1000)

/-- R33, R37, R125: the group of a LOCKED zone is neither CLOSING, CLOSED nor OPENING. -/
def State.lockedZonesSound (s : State) : Prop :=
  ∀ z, (s.zone z).state = .locked → (s.groupOf z).state.trippable = false

/-- R148: the outcome that a group's state stands for in the group's current record. -/
def GroupState.outcome : GroupState → GroupOutcome
  | .tripping => .pending
  | .tripped => .cleared
  | .welded => .welded
  | _ => .notInSet

/-- R147 to R152: at most eight records, numbered apart and never 0; every current record number is
that of a held record, which holds the outcome of the group's state. -/
def State.storeSound (s : State) : Prop :=
  s.store.records.length ≤ Config.tripSlots ∧ (s.store.records.map (·.number)).Nodup ∧
  (∀ r ∈ s.store.records, r.number ≠ 0 ∧
    ∀ g, (r.outcomes[g] = .notInSet ↔ inGroups r.groups g = false)) ∧
  s.store.next ≠ 0 ∧ s.store.lost ≤ max16 ∧
  ∀ g, (s.group g).record ≠ 0 → ∃ r ∈ s.store.records,
    r.number = (s.group g).record ∧ r.outcomes[g] = (s.group g).state.outcome

/-- R159: the three runs of the queue: what is sent stands before what is not, what was ever sent
before what never was. -/
def sentBefore (x y : QueueEntry) : Prop :=
  (y.sent = true → x.sent = true) ∧ (y.everSent = true → x.everSent = true)

/-- R159, R161 to R164, R168, R169: the report queue: at most 48 entries of consecutive numbers in three
runs, at most 4 ever sent; the balance; the lost-pending count above 0 only while full; ALERT. -/
def ReportQueue.sound (q : ReportQueue) : Prop :=
  q.entries.length ≤ Config.reportDepth ∧
  q.entries.map (·.seq) =
    (List.range q.entries.length).map (fun i => q.nextSeq - BitVec.ofNat 8 (q.entries.length - i)) ∧
  q.entries.Pairwise sentBefore ∧
  (∀ e ∈ q.entries, e.sent = true → e.everSent = true) ∧
  q.entries.countP (fun e => e.everSent) ≤ Config.reportWindow ∧
  (0 < q.lostPending → q.entries.length = Config.reportDepth) ∧
  q.lostPending ≤ max16 ∧ q.lostTotal ≤ max32 ∧
  q.generated = q.acknowledged + BitVec.ofNat 32 q.entries.length + q.lost ∧
  (q.alert = true ↔ q.entries ≠ [])

/-- R176: the bytes that the receiver holds in each of its states. -/
def Receiver.sound (r : Receiver) : Prop :=
  match r.state with
  | .hunting => r.bytes = [] ∧ r.gap = none
  | .header => r.bytes = [syncByte] ∧ r.gap.isSome
  | .body => r.bytes.head? = some syncByte ∧ r.gap.isSome ∧ (3 ≤ r.len ∧ r.len ≤ 251) ∧
      2 ≤ r.bytes.length ∧ r.bytes.length < r.len + 2
  | .check => r.bytes.head? = some syncByte ∧ r.gap.isSome ∧ (3 ≤ r.len ∧ r.len ≤ 251) ∧
      r.len + 2 ≤ r.bytes.length ∧ r.bytes.length < r.len + 4

/-- R174, R180 to R185: the host link. An idle transmitter has nothing to send; the retransmit timer
runs only while an entry is sent-unacknowledged, and runs then unless a report frame is on TXD. -/
def State.linkSound (s : State) : Prop :=
  s.link.rx.sound ∧ s.link.lastNum = s.link.stored.map (·.num) ∧
  (s.link.replyPending = true → s.link.stored.isSome) ∧
  (10 ≤ s.link.interval ∧ s.link.interval ≤ 500) ∧
  (∀ n ∈ s.link.counters.list, n ≤ max16) ∧
  (s.link.tx = .idle → s.link.replyPending = false ∧ s.reports.takeReport = none) ∧
  (s.link.retransmitAt.isSome → 0 < s.reports.sentCount) ∧
  (0 < s.reports.sentCount → (∀ f, s.link.tx ≠ .report f) → s.link.retransmitAt.isSome)

/-- Every block is sound. -/
def State.sound (s : State) : Prop :=
  s.mtu.sound ∧ s.zonesSound ∧ s.planSound ∧ s.driveSound ∧ s.scoresSound ∧ s.groupsSound ∧
  s.lockedZonesSound ∧ s.storeSound ∧ s.reports.sound ∧ s.linkSound

/-! ### Requests -/

/-- R179, R180: a request frame of this header is executed: no reply is pending, and its number is not
that of the last request. -/
def State.accepts (s : State) (hd : Header) : Prop :=
  s.link.replyPending = false ∧ s.link.lastNum ≠ some hd.num

/-- R177, R178, R182: the state in which a request is taken: at the instant of the frame, which is counted
and whose acknowledgement is applied; where that removed entries, an idle transmitter has chosen. -/
def State.received (s : State) (hd : Header) : State :=
  applyAck hd.ack ((s.atTime hd.time).count fun c =>
    { c with framesReceived := bump c.framesReceived })

/-- R181 step 3, R182: a reply of TYPE `type` to the request of a header is stored and pending, the number
is the last, the executed counter is raised, and the transmitter chooses. -/
def State.replying (s : State) (hd : Header) (type : Byte) (code : ResultCode) (fields : List Byte) :
    State :=
  txChoose { s with link := { s.link with
    stored := some { num := hd.num, type := type, result := code, fields := fields },
    lastNum := some hd.num, replyPending := true,
    counters := { s.link.counters with executed := min 65535 (s.link.counters.executed + 1) } } }

end Sys2Proof.Machine

namespace Sys2Proof

open Sys2Proof.Machine

/-- The header and the request of a request command; none for a happening. -/
def Instr.requestOf : Instr → Option (Header × Request)
  | .nop hd => some (hd, .nop)
  | .identify hd => some (hd, .identify)
  | .linkSync hd => some (hd, .linkSync)
  | .setLinkTiming hd i => some (hd, .setLinkTiming i)
  | .queryLink hd => some (hd, .queryLink)
  | .setSubscription hd m => some (hd, .setSubscription m)
  | .queryReportStatus hd => some (hd, .queryReportStatus)
  | .setFrame hd l => some (hd, .setFrame l)
  | .queryMains hd => some (hd, .queryMains)
  | .configZone hd z g c p o l f ol sl => some (hd, .configZone z g c p o l f ol sl)
  | .enableZone hd z => some (hd, .enableZone z)
  | .disableZone hd z => some (hd, .disableZone z)
  | .setDemand hd z d => some (hd, .setDemand z d)
  | .clearZone hd z => some (hd, .clearZone z)
  | .queryZone hd z => some (hd, .queryZone z)
  | .queueOrder hd z t n c => some (hd, .queueOrder z t n c)
  | .abortOrder hd z t => some (hd, .abortOrder z t)
  | .queryOrders hd z => some (hd, .queryOrders z)
  | .setLimits hd p a b c d => some (hd, .setLimits p a b c d)
  | .queryPlan hd z => some (hd, .queryPlan z)
  | .queryFrameSummary hd => some (hd, .queryFrameSummary)
  | .queryTally hd z => some (hd, .queryTally z)
  | .clearTally hd x => some (hd, .clearTally x)
  | .setSupervision hd l o p m => some (hd, .setSupervision l o p m)
  | .querySupervision hd => some (hd, .querySupervision)
  | .closeGroup hd g => some (hd, .closeGroup g)
  | .openGroup hd g => some (hd, .openGroup g)
  | .ackTrip hd g => some (hd, .ackTrip g)
  | .tripAll hd => some (hd, .tripAll)
  | .setContactorTiming hd c o v => some (hd, .setContactorTiming c o v)
  | .queryGroups hd => some (hd, .queryGroups)
  | .readTripRecord hd n => some (hd, .readTripRecord n)
  | .releaseTripRecord hd n => some (hd, .releaseTripRecord n)
  | .queryTripStore hd => some (hd, .queryTripStore)
  | _ => none

end Sys2Proof

namespace Sys2Proof.Machine

/-- The bytes of a request frame (R176, R177). -/
def requestFrame (hd : Header) (r : Request) : List Byte :=
  frameBytes (hd.num.zeroExtend 8) hd.ack r.typeCode r.payload

/-- RX_BYTE for each byte of a list, with good stop bits, at the instants given. -/
def receiveAll : List (Nat × Byte) → State → Result
  | [], s => .next s
  | (t, b) :: bs, s =>
    match exec (.rxByte t b true) s with
    | .next s' => receiveAll bs s'
    | .fault f => .fault f
    | .refused r => .refused r

/-- Instants in order, none more than the byte gap of 5 ms after the one before (R176). -/
def inStep : Nat → List Nat → Prop
  | _, [] => True
  | t, u :: us => t ≤ u ∧ u ≤ t + Config.byteGap ∧ inStep u us

/-! ### Resets -/

/-- Every block but the trip record store at the values that a reset gives it (Tables 1-1, 2-1, 2-2, 4-1,
5-1, 6-1, 7-1, 9-3, 10-1 and R40), with STARTUP in the queue and on TXD (R172, R182). -/
def State.afterReset (t : State) (straps : Straps) (cause : ResetCause) : Prop :=
  t.mtu = { state := .searching, refTime := none, history := [], period := 0, run := 0,
            coast := false, glitches := 0, coasts := 0, h := 0, len := 32, pendingLen := 32,
            frame := 0, midDue := none } ∧
  (∀ z : ZoneId, t.zone z = { cfg := { group := 0, current := 10, prio := 3, offset := z.val,
                                       lease := 0, fallback := 0, openLimit := 3, stuckLimit := 2 },
                              state := .disabled, configured := false, demand := 0,
                              leaseLeft := 0 }) ∧
  (∀ z, t.queue z = []) ∧ t.orders.counter = 0 ∧
  t.planner.pendingLimits = .zero ∧ t.planner.limits = .zero ∧ t.planner.building = none ∧
  t.planner.committed = none ∧ t.planner.summary.frame = 0 ∧ t.planner.summary.len = 32 ∧
  t.planner.summary.limits = .zero ∧ t.planner.summary.governs = false ∧
  (∀ z : ZoneId, t.planner.summary.zones[z] = { source := .none, requested := 0, granted := 0 } ∧
    t.planner.curtailed[z] = 0) ∧
  t.switch.lines = 0 ∧ t.switch.present = none ∧ t.switch.previous = none ∧
  (∀ z : ZoneId, t.switch.fired[z] = 0) ∧
  t.sup.leak = 1 ∧ t.sup.offset = 20 ∧ t.sup.percent = 10 ∧ t.sup.limit = 4 ∧
  (∀ z : ZoneId, t.sup.openScores[z] = 0 ∧ t.sup.stuckScores[z] = 0) ∧ t.sup.supplyScore = 0 ∧
  t.sup.openChecked = 0 ∧ t.sup.openFailed = 0 ∧ t.sup.stuckChecked = 0 ∧ t.sup.stuckFailed = 0 ∧
  t.sup.supplyChecked = false ∧ t.sup.supplyFailed = false ∧ t.sup.sample = none ∧
  t.sup.readings = [] ∧ t.sup.lastCheck = none ∧
  (∀ g, (t.group g).state = .opened ∧ (t.group g).coil = false ∧ (t.group g).aux = false ∧
    (t.group g).releasePending = false ∧ (t.group g).timer = none ∧ (t.group g).record = 0 ∧
    (t.group g).rawAuxSince = if (t.group g).rawAux then some t.now else none) ∧
  t.gcc.closeTimeout = 150 ∧ t.gcc.openTimeout = 150 ∧ t.gcc.verifyWindow = 200 ∧
  t.gcc.masterTrip = false ∧ t.gcc.stop = false ∧
  t.gcc.rawStopSince = (if t.gcc.rawStop then some t.now else none) ∧
  t.reports = { entries := [{ report := .startup cause t.store.records.length, seq := 0,
                              sent := true, everSent := true }],
                nextSeq := 1, mask := 63, lostPending := 0, lostTotal := 0, generated := 1,
                acknowledged := 0, lost := 0, alert := true } ∧
  t.link = { rate := .ofStraps straps, rx := .idle, lastNum := none, stored := none,
             replyPending := false,
             tx := .report (frameBytes 0x40 0 0x81
               [cause.code, BitVec.ofNat 8 t.store.records.length]),
             interval := 50, retransmitAt := none,
             counters := { LinkCounters.zero with reportsSent := 1 } }

/-! ### Zero crossings in LOCKED -/

/-- R7, R8: a command that makes a zero crossing in LOCKED: an edge 7.0 ms to 12.5 ms after the
reference time, or the window's expiry with the coast flag clear. -/
def State.crossesAt (s : State) : Instr → Prop
  | .zxEdge t _ => s.mtu.state = .locked ∧ ∃ r, s.mtu.refTime = some r ∧
      Config.shortestValid ≤ max s.now t - r ∧ max s.now t - r ≤ Config.window
  | .windowExpiry _ => s.mtu.state = .locked ∧ s.mtu.coast = false ∧ s.mtu.refTime.isSome
  | _ => False

end Sys2Proof.Machine

namespace Sys2Proof

open Sys2Proof.Machine

/-- The order in which the blocks take the crossing that a command makes. -/
def Instr.takers : Instr → List Taker
  | .zxEdge _ order => order
  | .windowExpiry order => order
  | _ => []

end Sys2Proof

namespace Sys2Proof.Machine

/-- R10: the crossing to come is a frame boundary. -/
def Mtu.atEnd (m : Mtu) : Prop := ¬ m.h + 1 < m.len

/-- R64, R65: the plan that governs the half-cycle to come: the committed plan, or at a frame boundary
the plan under construction, unless L changes there. -/
def State.nextPlan (s : State) : Option Plan :=
  if s.mtu.h + 1 < s.mtu.len then s.planner.committed
  else if s.mtu.pendingLen = s.mtu.len then s.planner.building
  else none

/-- R90, Table 5-2: the plan's source is what the zone wants: it is in DEMAND with source continuous,
or in DOSING with the handle of its head order, PLANNED or ACTIVE. -/
def State.wantsSource (s : State) (z : ZoneId) (src : Source) : Prop :=
  ((s.zone z).state = .demand ∧ src = .continuous) ∨
  ((s.zone z).state = .dosing ∧ ∃ o rest, s.queue z = o :: rest ∧ src = .order o.handle ∧
    (o.state = .planned ∨ o.state = .active))

/-- Reports submitted one after another (R160). -/
def ReportQueue.offerAll (q : ReportQueue) (rs : List Report) : ReportQueue :=
  rs.foldl ReportQueue.offer q

/-! ### Withdrawals and trips -/

/-- R29, R52: what is left of a zone's queue when its orders are halted for a cause. -/
def haltedQueue (reason : HaltReason) : List Order → List Order
  | [] => []
  | o :: _ =>
    match o.state with
    | .queued => []
    | .planned => [{ o with state := .halting reason }]
    | .active => [{ o with state := .halting reason }]
    | .halting _ => [o]

/-- R52, Table 3-5: the ORDER_HALTED reports that halting a queue for a cause makes at once, head first. -/
def haltReports (z : ZoneId) (reason : HaltReason) (q : List Order) : List Report :=
  let atOnce : List Order := match q with
    | [] => []
    | o :: rest => if o.state = .queued then o :: rest else rest
  atOnce.map fun o => .orderHalted z o.tag reason 0 o.total

/-- R29: a zone is taken out of service: its new state, no demand and no lease, its orders halted. -/
def State.takenOut (s : State) (z : ZoneId) (st : ZoneState) (reason : HaltReason) : State :=
  { s with
    zones := s.zones.set z.val { s.zone z with state := st, demand := 0, leaseLeft := 0 } z.isLt,
    orders := { s.orders with
      queues := s.orders.queues.set z.val (haltedQueue reason (s.queue z)) z.isLt },
    reports := s.reports.offerAll (haltReports z reason (s.queue z)) }

/-- R30, R133 step 4: the withdrawal of the groups in `hit` for a cause: their zones in DEMAND or DOSING are
IDLE and their orders are halted, every other zone and queue is as it was, and the ORDER_HALTED reports of
the orders removed at once enter by group, zone and place in the queue (zones in ascending number is the
model's choice, notes/assumptions/13.md). -/
def State.withdrawnOf (s : State) (hit : GroupId → Bool) (reason : HaltReason) : State :=
  let leaves := fun z => hit (s.zone z).cfg.group && (s.zone z).wants
  { s with
    zones := Vector.ofFn fun z =>
      if leaves z then { s.zone z with state := .idle, demand := 0, leaseLeft := 0 } else s.zone z,
    orders := { s.orders with
      queues := Vector.ofFn fun z =>
        if leaves z then haltedQueue reason (s.queue z) else s.queue z },
    reports := s.reports.offerAll ((allGroups.filter hit).flatMap fun g =>
      (allZones.filter fun z => (s.zone z).cfg.group == g && (s.zone z).wants).flatMap fun z =>
        haltReports z reason (s.queue z)) }

/-- R133 step 1, R149: the record of a set of groups, before the store numbers it. -/
def State.recordOf (s : State) (cause : TripCause) (hit : GroupId → Bool)
    (lockedZones : List LockedZone) (outcome : GroupOutcome) : TripRecord :=
  { number := 0, cause := cause, groups := groupSet hit, lockedZones := lockedZones,
    frame := s.mtu.frame, h := s.mtu.h, mains := s.mtu.state, drive := s.switch.present,
    supply := s.sup.lastCheck, conduction := s.sup.sample, aux := groupSet fun g => (s.group g).aux,
    outcomes := Vector.ofFn fun g => if hit g then outcome else .notInSet, released := false }

/-- R132 to R134, R138, R139: the trip of the named groups. It affects those CLOSING, CLOSED or OPENING, and
with none of them nothing changes. One record of them is made; their coils are released, each is TRIPPING
with its verify timer running, or TRIPPED where the first test verifies it, with the record's number as its
current one; GROUP_TRIPPED with that number, the withdrawals and GROUP_VERIFIED follow. R151: a group whose
current record is discarded for the new one has none. -/
def State.tripOf (s : State) (cause : TripCause) (named : GroupId → Bool)
    (lockedZones : List LockedZone) : State :=
  let hit := fun g => named g && decide ((s.group g).state = .closing ∨
    (s.group g).state = .closed ∨ (s.group g).state = .opening)
  if ∀ g, hit g = false then s
  else
    let made := s.store.create (s.recordOf cause hit lockedZones .pending)
    let n := made.2.1
    let out := (submit (.groupTripped (groupSet hit) cause n) s).withdrawnOf hit .groupTrip
    { out with
      gcc := { s.gcc with
        groups := Vector.ofFn fun g =>
          if hit g then
            { s.group g with
              state := if s.verified g then .tripped else .tripping,
              coil := false, releasePending := false,
              timer := if s.verified g then none else
                some { kind := .verify, expiry := s.now + s.gcc.verifyWindow * 100 },
              record := n }
          else
            { s.group g with
              record := if made.2.2 = some (s.group g).record then 0 else (s.group g).record } },
      store := { made.1 with
        records := made.1.records.map fun r =>
          if r.number = n then
            { r with
              outcomes := Vector.ofFn fun g =>
                if hit g && s.verified g then .cleared else r.outcomes[g] }
          else r },
      reports := out.reports.offerAll ((allGroups.filter fun g => hit g && s.verified g).map
        fun g => .groupVerified g n) }

/-- R142 steps 1 to 4: a group enters WELDED and the master-trip latch is set. At VERIFY_TIMEOUT with a
current record the group's outcome in it becomes WELDED; otherwise a record of the group alone, its outcome
WELDED, is made, and its number is the group's. GROUP_WELDED carries that number. -/
def State.weldOf (s : State) (g : GroupId) (cause : WeldCause) : State :=
  let v : Group := { s.group g with
    state := .welded, coil := false, timer := none, releasePending := false }
  let old := (s.group g).record
  if cause = .verifyTimeout ∧ old ≠ 0 then
    submit (.groupWelded g cause old) { s with
      gcc := { s.gcc with groups := s.gcc.groups.set g.val v g.isLt, masterTrip := true },
      store := { s.store with
        records := s.store.records.map fun r =>
          if r.number = old ∧ r.outcomes[g] = .pending then
            { r with outcomes := r.outcomes.set g.val .welded g.isLt }
          else r } }
  else
    let made := s.store.create (s.recordOf .groupWeld (fun y => y == g) [] .welded)
    submit (.groupWelded g cause made.2.1) { s with
      gcc := { s.gcc with
        masterTrip := true,
        groups := Vector.ofFn fun y =>
          if y = g then { v with record := made.2.1 }
          else { s.group y with
            record := if made.2.2 = some (s.group y).record then 0 else (s.group y).record } },
      store := made.1 }

/-! ### The leak -/

/-- R110, R111, R115: supervision ends a frame: each score that was checked in it without a strike leaks, but
for the zone scores of FAULTED and LOCKED zones; a score that this brings to 0 reports it, zone by zone,
open-load before stuck-on, and the supply last; every mark is cleared, and a new accumulation begins. -/
def State.leaked (s : State) : State :=
  let leaks := fun z => (s.zone z).state ≠ .faulted ∧ (s.zone z).state ≠ .locked
  let openLeaks := fun z => leaks z ∧ inZones s.sup.openChecked z = true ∧
    inZones s.sup.openFailed z = false
  let stuckLeaks := fun z => leaks z ∧ inZones s.sup.stuckChecked z = true ∧
    inZones s.sup.stuckFailed z = false
  let supplyLeaks := s.sup.supplyChecked = true ∧ s.sup.supplyFailed = false
  let cleared := fun n => 0 < n ∧ n ≤ s.sup.leak
  { s with
    sup := { s.sup with
      openScores := Vector.ofFn fun z =>
        if openLeaks z then s.sup.openScores[z] - s.sup.leak else s.sup.openScores[z],
      stuckScores := Vector.ofFn fun z =>
        if stuckLeaks z then s.sup.stuckScores[z] - s.sup.leak else s.sup.stuckScores[z],
      supplyScore := if supplyLeaks then s.sup.supplyScore - s.sup.leak else s.sup.supplyScore,
      openChecked := 0, openFailed := 0, stuckChecked := 0, stuckFailed := 0,
      supplyChecked := false, supplyFailed := false, readings := [], readingsFrom := s.now },
    reports := s.reports.offerAll
      ((allZones.flatMap fun z =>
        (if openLeaks z ∧ cleared s.sup.openScores[z] then
          [Report.zoneCleared z .openLoad] else []) ++
        if stuckLeaks z ∧ cleared s.sup.stuckScores[z] then [.zoneCleared z .stuckOn] else []) ++
      if supplyLeaks ∧ cleared s.sup.supplyScore then [.supplyCleared] else []) }

/-! ### The ranges of the fields (Table 11-4) -/

/-- Table 11-4: every field of a request lies in its range, with `len` the L in force. -/
def Request.fieldsInRange (len : Nat) : Request → Prop
  | .setLinkTiming i => 10 ≤ i.toNat ∧ i.toNat ≤ 500
  | .setSubscription m => m.toNat ≤ 63
  | .setFrame l => 8 ≤ l.toNat ∧ l.toNat ≤ 128
  | .configZone z g c p o _ f ol sl =>
      z.toNat ≤ 23 ∧ g.toNat ≤ 3 ∧ (1 ≤ c.toNat ∧ c.toNat ≤ 500) ∧ p.toNat ≤ 3 ∧ o.toNat ≤ 127 ∧
      f.toNat ≤ 128 ∧ 1 ≤ ol.toNat ∧ 1 ≤ sl.toNat
  | .enableZone z | .disableZone z | .clearZone z | .queryZone z | .queryOrders z | .queryPlan z
  | .queryTally z => z.toNat ≤ 23
  | .setDemand z d => z.toNat ≤ 23 ∧ d.toNat ≤ len
  | .queueOrder z t n c => z.toNat ≤ 23 ∧ t ≠ 0 ∧ n ≠ 0 ∧ 1 ≤ c.toNat ∧ c.toNat ≤ 128
  | .abortOrder z t => z.toNat ≤ 23 ∧ t ≠ 0
  | .setLimits s a b c d =>
      s.toNat ≤ 4000 ∧ a.toNat ≤ 2000 ∧ b.toNat ≤ 2000 ∧ c.toNat ≤ 2000 ∧ d.toNat ≤ 2000
  | .clearTally x => x.toNat ≤ 23 ∨ x = 255
  | .setSupervision l o p m => l.toNat ≤ 15 ∧ o.toNat ≤ 500 ∧ p.toNat ≤ 50 ∧ 1 ≤ m.toNat
  | .closeGroup g | .openGroup g | .ackTrip g => g.toNat ≤ 3
  | .setContactorTiming c o v =>
      (20 ≤ c.toNat ∧ c.toNat ≤ 1000) ∧ (20 ≤ o.toNat ∧ o.toNat ≤ 1000) ∧
      20 ≤ v.toNat ∧ v.toNat ≤ 1000
  | .releaseTripRecord n => n ≠ 0
  | _ => True

end Sys2Proof.Machine
end

