-- ==== Sys2Proof/Certificates/Slice0/Obligations.lean ====
section
/-! DEFINITION. The statements for the provers, one `def Obligations.<Name> : Prop` each, in the order of
OBLIGATIONS.json. Where a statement rests on a choice of the model, its docstring names the log entry. These
choices stand behind many of them: instants are operands, and none lies before `now` (log entry 2); a
timer, a window and a point come at their own instants (3, 16, 17); the order in which the blocks take a
crossing is an operand (5); the transmitter chooses at the end of an acknowledgement that removes entries,
and at a command's end (6); a request command is its whole frame (7); the widths of reply fields are those
that R194 gives (21). -/

open Sys2Proof Sys2Proof.Machine

/-! ### The step, the resets -/

/-- The step is exec of the command at the front of the queue, on the state with the queue's rest, and
every command of every state answers a next state. An empty queue idles (the model's choices: log entries
1 and 15). -/
def Obligations.StepRunsTheFrontCommand : Prop :=
  (∀ (c : Instr) (cs : List Instr) (s : State),
    step { s with pending := c :: cs } = exec c { s with pending := cs } ∧
    ∃ t, exec c { s with pending := cs } = .next t ∧ t.pending = cs) ∧
  ∀ s : State, s.pending = [] → step s = .next s

/-- POWER_ON puts every block at its reset values, empties the trip record store and enters STARTUP
(R147, R172). The raw lines keep their levels, and a line away from its reset value starts its count of
4 ms at the reset (R123; the model's choice, log entry 8). -/
def Obligations.PowerOnPutsEveryBlockAtItsResetValues : Prop :=
  ∀ (time : Nat) (straps : Straps) (s : State), ∃ t,
    exec (.powerOn time straps) s = .next t ∧ t.afterReset straps .powerOn ∧
    t.store = { records := [], next := 1, lost := 0 } ∧ t.now = max s.now time ∧
    (∀ g, (t.group g).rawAux = (s.group g).rawAux) ∧ t.gcc.rawStop = s.gcc.rawStop ∧
    t.pending = s.pending

/-- R154, R172: PIN_RESET keeps the trip record store, with each PENDING outcome UNVERIFIED, and puts
every other block at its reset values (R1, R16, R40, R62, R88, R101, R122, R158, R174). The raw lines keep
their levels, and a line away from its reset value starts its count of 4 ms at the reset (R123; the
model's choice, log entry 8). -/
def Obligations.PinResetKeepsTheTripRecordStore : Prop :=
  ∀ (time : Nat) (straps : Straps) (s : State), ∃ t,
    exec (.pinReset time straps) s = .next t ∧ t.afterReset straps .pin ∧
    t.store.next = s.store.next ∧ t.store.lost = s.store.lost ∧
    t.store.records.length = s.store.records.length ∧
    (∀ (i : Nat) (r r' : TripRecord), s.store.records[i]? = some r → t.store.records[i]? = some r' →
      (∀ g : GroupId, r'.outcomes[g] =
        if r.outcomes[g] = .pending then .unverified else r.outcomes[g]) ∧
      r' = { r with outcomes := r'.outcomes }) ∧
    t.now = max s.now time ∧
    (∀ g, (t.group g).rawAux = (s.group g).rawAux) ∧ t.gcc.rawStop = s.gcc.rawStop ∧
    t.pending = s.pending

/-- State.reset is what POWER_ON at instant 0 with straps 00 leaves where no raw line is closed or
asserted (the model's choices, log entries 8 and 9), and it is sound. -/
def Obligations.ResetIsTheSoundStateAfterPowerOn : Prop :=
  (∀ s : State, s.now = 0 → (∀ g, (s.group g).rawAux = false) → s.gcc.rawStop = false →
    s.pending = [] →
    exec (.powerOn 0 { baud1 := false, baud0 := false }) s = .next State.reset) ∧
  State.reset.sound

/-! ### What every step keeps -/

/-- Table 1-1, R5, R6, R8, R11, R12: the mains timing unit stays sound. -/
def Obligations.StepKeepsTheMainsTimingUnitSound : Prop :=
  ∀ s t : State, s.sound → step s = .next t → t.mtu.sound

/-- R17, R18, R41, R42, R55: the zone table and the order unit stay sound. -/
def Obligations.StepKeepsTheZonesAndOrdersSound : Prop :=
  ∀ s t : State, s.sound → step s = .next t → t.zonesSound

/-- R62, R63, R65, R81: the planner's plans stay sound: slot sums within the limits, and in LOCKED one
plan for the present frame and one for the next. -/
def Obligations.StepKeepsThePlansSound : Prop :=
  ∀ s t : State, s.sound → step s = .next t → t.planSound

/-- R88, R94, R95: the drive lines stay the set of the open present drive record, within the supply
limit, and none is asserted while the mains is not LOCKED. -/
def Obligations.StepKeepsTheDriveLinesSound : Prop :=
  ∀ s t : State, s.sound → step s = .next t → t.driveSound

/-- R108, R109: every score stays between 0 and its limit, and stands at it only while latched. -/
def Obligations.StepKeepsTheScoresSound : Prop :=
  ∀ s t : State, s.sound → step s = .next t → t.scoresSound

/-- R124, R137, R143, Tables 7-2 and 7-3: the groups stay sound; none is CLOSING or CLOSED under the
master-trip latch or STOP. -/
def Obligations.StepKeepsTheGroupsSound : Prop :=
  ∀ s t : State, s.sound → step s = .next t → t.groupsSound

/-- R33, R37, R125: the group of a LOCKED zone never becomes CLOSING, CLOSED or OPENING. -/
def Obligations.StepKeepsLockedZonesOffTheSupply : Prop :=
  ∀ s t : State, s.sound → step s = .next t → t.lockedZonesSound

/-- R147, R150 to R152: the trip record store stays sound: at most eight records, numbered apart, and
every current record number is that of a held record with the group's outcome. -/
def Obligations.StepKeepsTheTripRecordStoreSound : Prop :=
  ∀ s t : State, s.sound → step s = .next t → t.storeSound

/-- R159, R164, R168, R169: the report queue stays sound: at most 48 entries of consecutive numbers, at
most 4 of them ever sent, and generated = acknowledged + held + lost. -/
def Obligations.StepKeepsTheReportQueueSound : Prop :=
  ∀ s t : State, s.reports.sound → step s = .next t → t.reports.sound

/-- R176, R180, R182, R184: the host link stays sound: an idle transmitter has nothing to send, and a
sent report is watched by the retransmit timer. -/
def Obligations.StepKeepsTheHostLinkSound : Prop :=
  ∀ s t : State, s.sound → step s = .next t → t.linkSound

/-! ### Mains timing -/

/-- R3: a glitch raises the glitch count, stopping at 65535, and changes nothing else, in SEARCHING and
in LOCKED. -/
def Obligations.GlitchOnlyRaisesItsCount : Prop :=
  ∀ (time r : Nat) (order : List Taker) (s : State),
    s.mtu.state ≠ .lost → s.mtu.refTime = some r → max s.now time - r < 700 →
    exec (.zxEdge time order) s = .next (txChoose { s with
      now := max s.now time,
      mtu := { s.mtu with glitches := min 65535 (s.mtu.glitches + 1) } })

/-- R2, R4, R12: the edges that make no crossing outside LOCKED: the reference edge, a valid edge short
of the eighth, a long edge, and the edge that ends LOST. -/
def Obligations.EdgesOutsideLockCountTowardsLock : Prop :=
  (∀ (time : Nat) (order : List Taker) (s : State),
    s.mtu.state = .searching → s.mtu.refTime = none →
    exec (.zxEdge time order) s = .next (txChoose { s with
      now := max s.now time, mtu := { s.mtu with refTime := some (max s.now time) } })) ∧
  (∀ (time r : Nat) (order : List Taker) (s : State),
    s.mtu.sound → s.mtu.state = .searching → s.mtu.refTime = some r →
    700 ≤ max s.now time - r → max s.now time - r ≤ 1250 → s.mtu.run + 1 < 8 →
    exec (.zxEdge time order) s = .next (txChoose { s with
      now := max s.now time,
      mtu := { s.mtu with
        history := s.mtu.history ++ [max s.now time - r],
        period := (s.mtu.history.sum + (max s.now time - r)) / (s.mtu.history.length + 1),
        run := s.mtu.run + 1, refTime := some (max s.now time) } })) ∧
  (∀ (time r : Nat) (order : List Taker) (s : State),
    s.mtu.state = .searching → s.mtu.refTime = some r → 1250 < max s.now time - r →
    exec (.zxEdge time order) s = .next (txChoose { s with
      now := max s.now time,
      mtu := { s.mtu with
        history := [], period := 0, run := 0, refTime := some (max s.now time) } })) ∧
  ∀ (time : Nat) (order : List Taker) (s : State), s.mtu.state = .lost →
    exec (.zxEdge time order) s = .next (txChoose { s with
      now := max s.now time,
      mtu := { s.mtu with
        state := .searching, history := [], period := 0, run := 0, h := 0,
        refTime := some (max s.now time) } })

/-- R5, R9, R65, R82: the eighth consecutive valid edge locks the mains and begins a new frame on an
empty plan, in which no zone conducts, and hands that crossing on to every block, in the order that the
edge carries (Table 1-3; log entry 5); MAINS_LOCKED is submitted, and it enters whenever the queue held
fewer than 48 entries before the edge, because it is submitted before the other reports of the lock
crossing (the model's choice, log entry 18). -/
def Obligations.EighthValidEdgeLocksTheMains : Prop :=
  ∀ (time r : Nat) (order : List Taker) (s : State),
    s.sound → s.mtu.state = .searching → s.mtu.refTime = some r →
    700 ≤ max s.now time - r → max s.now time - r ≤ 1250 → s.mtu.run = 7 →
    ∃ t, exec (.zxEdge time order) s = .next t ∧ t.now = max s.now time ∧
      (let p := (s.mtu.history.sum + (max s.now time - r)) / 8
       let m : Mtu := { s.mtu with
        state := .locked, run := 0, history := s.mtu.history ++ [max s.now time - r], period := p,
        h := 0, len := s.mtu.pendingLen, frame := s.mtu.frame + 1,
        refTime := some (max s.now time), midDue := some (max s.now time + p / 2) }
       let c : Crossing := {
        frame := s.mtu.frame + 1, len := s.mtu.pendingLen, h := 0, synthetic := false, lock := true,
        boundary := true, lChanged := false, endedFrame := s.mtu.frame, endedH := s.mtu.h }
       t = txChoose ((takerOrder order).foldl (fun u k => takeCrossing c k u)
        (submit (.mainsLocked p (s.mtu.frame + 1)) { s with now := max s.now time, mtu := m })) ∧
       t.mtu = m ∧
       (s.reports.mask.getLsbD 0 = true → s.reports.entries.length < 48 →
        ∃ e ∈ t.reports.entries, e.report = .mainsLocked p (s.mtu.frame + 1))) ∧
      t.switch.lines = 0 ∧
      (∃ d, t.switch.present = some d ∧ d.frame = s.mtu.frame + 1 ∧ d.h = 0 ∧ d.set = 0) ∧
      ∃ q, t.planner.committed = some q ∧ q.frame = s.mtu.frame + 1 ∧ q.len = s.mtu.pendingLen ∧
        ∀ z : ZoneId, (q.entries[z]).source = .none ∧ (q.entries[z]).slots = []

/-- R6 to R10: a zero crossing in LOCKED advances the half-cycle, or begins the next frame with the
pending L. A real one clears the coast flag and appends its interval if the one before was real; a
synthetic one stands one period after the old reference time, and is counted. Each is handed on to every
block once, in the order that the command carries, the blocks it leaves out following in the order of Table
1-3 (the model's choice, log entry 5), and the transmitter then chooses. An edge taken after the window has
run out finds the expiry first, at most a synthetic crossing and then the loss (R8; the model's reading, log
entry 4), and is never dropped as a long edge (R2). -/
def Obligations.ZeroCrossingAdvancesTheHalfCycle : Prop :=
  (∀ order : List Taker, (takerOrder order).Nodup ∧ (∀ k, k ∈ takerOrder order) ∧
    (order.Nodup → order <+: takerOrder order)) ∧
  takerOrder [] = [.switchStage, .supervision, .contactors, .planner, .zoneTable] ∧
  (let within := fun s : State => s.mtu.h + 1 < s.mtu.len
   let next := fun s : State => { s.mtu with
    h := if within s then s.mtu.h + 1 else 0,
    frame := if within s then s.mtu.frame else s.mtu.frame + 1,
    len := if within s then s.mtu.len else s.mtu.pendingLen }
   let crossed := fun (order : List Taker) (synthetic : Bool) (s : State) (now : Nat) (m : Mtu) =>
    (takerOrder order).foldl (fun u k => takeCrossing {
      frame := (next s).frame, len := (next s).len, h := (next s).h, synthetic := synthetic,
      lock := false, boundary := !decide (within s),
      lChanged := !decide (within s) && s.mtu.pendingLen != s.mtu.len,
      endedFrame := s.mtu.frame, endedH := s.mtu.h } k u) { s with now := now, mtu := m }
   let coasted := fun (r : Nat) (s : State) => { next s with
    refTime := some (r + s.mtu.period), coast := true, coasts := min 65535 (s.mtu.coasts + 1),
    midDue := some (max (max s.now (r + 1250)) (r + s.mtu.period + s.mtu.period / 2)) }
   (∀ (time r : Nat) (order : List Taker) (s : State),
    s.mtu.sound → s.mtu.state = .locked → s.mtu.refTime = some r →
    700 ≤ max s.now time - r → max s.now time - r ≤ 1250 →
    ∃ t, exec (.zxEdge time order) s = .next t ∧ t.now = max s.now time ∧
      (let hist := if s.mtu.coast then s.mtu.history
         else s.mtu.history.drop 1 ++ [max s.now time - r]
       let m : Mtu := { next s with
        refTime := some (max s.now time), coast := false, history := hist, period := hist.sum / 8,
        midDue := some (max s.now time + hist.sum / 8 / 2) }
       t.mtu = m ∧ t = txChoose (crossed order false s (max s.now time) m))) ∧
   (∀ (r : Nat) (order : List Taker) (s : State),
    s.mtu.state = .locked → s.mtu.refTime = some r → s.mtu.coast = false →
    ∃ t, exec (.windowExpiry order) s = .next t ∧ t.now = max s.now (r + 1250) ∧
      t.mtu = coasted r s ∧
      t = txChoose (crossed order true s (max s.now (r + 1250)) (coasted r s))) ∧
   ∀ (time r : Nat) (order : List Taker) (s : State),
    s.mtu.sound → s.mtu.state = .locked → s.mtu.refTime = some r → r + 1250 < max s.now time →
    ∃ t, exec (.zxEdge time order) s = .next t ∧ t.now = max s.now time ∧
      (let lost := { s.mtu with
        state := .searching, refTime := some (max s.now time), history := [], period := 0,
        run := 0, coast := false, h := 0, midDue := none }
       let since := max s.now time - (r + s.mtu.period)
       (s.mtu.coast = true → t.switch.lines = 0 ∧
        t.mtu = { lost with len := s.mtu.pendingLen }) ∧
       (s.mtu.coast = false → t.mtu.coasts = min 65535 (s.mtu.coasts + 1) ∧
        .next t = exec (.zxEdge (max s.now time) order)
          (crossed order true s (max s.now (r + 1250)) (coasted r s))) ∧
       (s.mtu.coast = false → since < 700 →
        t.mtu.state = .locked ∧ t.mtu.refTime = some (r + s.mtu.period) ∧ t.mtu.coast = true ∧
        t.mtu.glitches = min 65535 (s.mtu.glitches + 1)) ∧
       (s.mtu.coast = false → 700 ≤ since → since ≤ 1250 →
        t.mtu.state = .locked ∧ t.mtu.refTime = some (max s.now time) ∧ t.mtu.coast = false ∧
        t.mtu.history = s.mtu.history) ∧
       (s.mtu.coast = false → 1250 < since →
        t.switch.lines = 0 ∧ t.mtu.state = .searching ∧ t.mtu.refTime = some (max s.now time) ∧
        t.mtu.history = [] ∧ t.mtu.h = 0 ∧ t.mtu.len = t.mtu.pendingLen)))

/-- R11, R31, R55, R81, R94: a window that expires with the coast flag set loses the mains: every line
falls, both plans go, every zone in DEMAND or DOSING is IDLE, every queue is empty, and the ORDER_HALTED
reports stand before MAINS_LOST. Nothing else changes. -/
def Obligations.SecondWindowExpiryLosesTheMains : Prop :=
  ∀ (r : Nat) (order : List Taker) (s : State),
    s.mtu.state = .locked → s.mtu.refTime = some r → s.mtu.coast = true →
    exec (.windowExpiry order) s = .next (txChoose { s with
      now := max s.now (r + 1250),
      mtu := { s.mtu with
        state := .lost, coast := false, refTime := none, len := s.mtu.pendingLen, midDue := none },
      switch := { s.switch with
        lines := 0,
        present := s.switch.present.map fun d => { d with status := .cutShort } },
      planner := { s.planner with
        committed := none, building := none,
        summary := { s.planner.summary with governs := false } },
      zones := Vector.ofFn fun z =>
        if (s.zone z).state = .demand ∨ (s.zone z).state = .dosing then
          { s.zone z with state := .idle, demand := 0, leaseLeft := 0 }
        else s.zone z,
      orders := { s.orders with queues := Vector.ofFn fun _ => [] },
      reports := s.reports.offerAll
        ((allZones.flatMap fun z => (s.queue z).map fun o =>
          Report.orderHalted z o.tag
            (match o.state with
              | .halting why => why
              | _ => .mainsLoss) o.fired o.remaining) ++
          [.mainsLost s.mtu.frame s.mtu.h
            ((allZones.map fun z => (s.queue z).countP fun o => !o.isHalting).sum)]) })

/-! ### The mid-half-cycle point and the supply current -/

/-- R9, R102, R138: the point of a locked half-cycle, taken once, at its instant: the new sample is that
of the CS lines, and no drive line, plan, zone configuration or supply score changes. A TRIPPING group
whose aux is open and whose configured zones are all inactive in the new sample is TRIPPED; one whose aux is
closed or of which a configured zone conducts stays TRIPPING with its verify timer. -/
def Obligations.MidHalfCyclePointSamplesTheConduction : Prop :=
  ∀ (cs : ZoneSet) (first : Bool) (d : Nat) (s : State),
    s.mtu.state = .locked → s.mtu.midDue = some d →
    ∃ t, exec (.midHalfCyclePoint cs first) s = .next t ∧ t.now = max s.now d ∧
      t.mtu = { s.mtu with midDue := none } ∧
      t.sup = { s.sup with
        sample := some { frame := s.mtu.frame, h := s.mtu.h, set := cs },
        openScores := t.sup.openScores, stuckScores := t.sup.stuckScores,
        openChecked := t.sup.openChecked, openFailed := t.sup.openFailed,
        stuckChecked := t.sup.stuckChecked, stuckFailed := t.sup.stuckFailed } ∧
      t.switch = s.switch ∧ t.planner = s.planner ∧ t.pending = s.pending ∧
      (∀ z, (t.zone z).cfg = (s.zone z).cfg ∧ (t.zone z).configured = (s.zone z).configured) ∧
      ∀ g, (s.group g).state = .tripping →
        (let quiet := ∀ z, (s.zone z).cfg.group = g → (s.zone z).configured = true →
          inZones cs z = false
         ((s.group g).aux = false → quiet →
          (t.group g).state = .tripped ∧ (t.group g).timer = none) ∧
         ((s.group g).aux = true ∨ ¬ quiet →
          (t.group g).state = .tripping ∧ (t.group g).timer = (s.group g).timer ∧
          (t.group g).aux = (s.group g).aux))

/-- R103 to R106, R32, R33, R35: each configured zone of a CLOSED group is checked at the point: driven,
for an inactive line; undriven, for an active one. A mismatch raises its score, and a score that reaches
its limit latches the zone; no other score changes. R107: the checks are decided first and applied in
ascending zone number. R32, R34, R106, R135, R153: what one strike does: ZONE_SUSPECT at a score of 1; at
the open-load limit the zone's orders halted and ZONE_FAULTED; at the stuck-on limit the zone's orders
halted, the trip of its CLOSED group with the zone in the record, or the zone's addition to the record of
its TRIPPING group, and then ZONE_LOCKED with the record number. The ORDER_HALTED reports of the group's
withdrawal enter in ascending zone number (the model's choice, log entry 13). -/
def Obligations.PointRaisesTheScoresOfMismatches : Prop :=
  (∀ (cs : ZoneSet) (first : Bool) (d : Nat) (s : State) (z : ZoneId),
    s.mtu.state = .locked → s.mtu.midDue = some d →
    ∃ t, exec (.midHalfCyclePoint cs first) s = .next t ∧
      (let checked := (s.zone z).configured = true ∧ (s.groupOf z).state = .closed
       let opn := s.sup.openScores[z]
       let stk := s.sup.stuckScores[z]
       let openFails := checked ∧ inZones s.drivenSet z = true ∧ inZones cs z = false ∧
         opn < (s.zone z).cfg.openLimit
       let stuckFails := checked ∧ inZones s.drivenSet z = false ∧ inZones cs z = true ∧
         stk < (s.zone z).cfg.stuckLimit
       let opens := openFails ∧ opn + 1 = (s.zone z).cfg.openLimit
       let locks := stuckFails ∧ stk + 1 = (s.zone z).cfg.stuckLimit ∧ (s.zone z).state ≠ .locked
       (¬ openFails → t.sup.openScores[z] = opn) ∧
       (openFails → ¬ (opens ∧ (s.zone z).state = .disabled) → t.sup.openScores[z] = opn + 1) ∧
       (opens → (s.zone z).state = .disabled → t.sup.openScores[z] = 0) ∧
       (¬ stuckFails → t.sup.stuckScores[z] = stk) ∧
       (stuckFails → t.sup.stuckScores[z] = stk + 1) ∧
       (opens → ((s.zone z).state = .idle ∨ (s.zone z).state = .demand ∨
         (s.zone z).state = .dosing) → (t.zone z).state = .faulted) ∧
       (locks → (t.zone z).state = .locked ∧ (t.groupOf z).state.trippable = false) ∧
       inZones t.sup.openChecked z = (inZones s.sup.openChecked z ||
         decide (checked ∧ inZones s.drivenSet z = true)) ∧
       inZones t.sup.stuckChecked z = (inZones s.sup.stuckChecked z ||
         decide (checked ∧ inZones s.drivenSet z = false)) ∧
       inZones t.sup.openFailed z = (inZones s.sup.openFailed z ||
         decide (checked ∧ inZones s.drivenSet z = true ∧ inZones cs z = false)) ∧
       inZones t.sup.stuckFailed z = (inZones s.sup.stuckFailed z ||
         decide (checked ∧ inZones s.drivenSet z = false ∧ inZones cs z = true)))) ∧
  (∀ (cs : ZoneSet) (first : Bool) (d : Nat) (s : State),
    s.mtu.state = .locked → s.mtu.midDue = some d →
    (let s0 : State := { s with
      now := max s.now d, mtu := { s.mtu with midDue := none },
      sup := { s.sup with sample := some { frame := s.mtu.frame, h := s.mtu.h, set := cs } } }
     exec (.midHalfCyclePoint cs first) s = .next (txChoose
      (if first then conductionChecks cs (testGroups s0) else testGroups (conductionChecks cs s0))))) ∧
  (∀ (cs : ZoneSet) (s : State),
    (let checked := fun z => (s.zone z).configured = true ∧ (s.groupOf z).state = .closed
     conductionChecks cs s = allZones.foldl (fun t z =>
      if checked z then
        if inZones s.drivenSet z then
          if inZones cs z then markOpen z false t else openStrike z (markOpen z true t)
        else
          if inZones cs z then stuckStrike z (markStuck z true t) else markStuck z false t
      else t) s)) ∧
  (∀ (z : ZoneId) (s : State),
    (let n := s.sup.openScores[z]
     let limit := (s.zone z).cfg.openLimit
     let v := (s.zone z).state
     let raised : State := { s with
      sup := { s.sup with openScores := s.sup.openScores.set z.val (n + 1) z.isLt },
      reports := s.reports.offerAll (if n = 0 then [.zoneSuspect z .openLoad 1] else []) }
     (limit ≤ n → openStrike z s = s) ∧
     (n + 1 < limit → openStrike z s = raised) ∧
     (n + 1 = limit → (v = .idle ∨ v = .demand ∨ v = .dosing) →
      openStrike z s = submit (.zoneFaulted z) (raised.takenOut z .faulted .zoneFault)) ∧
     (n + 1 = limit → v = .disabled → openStrike z s = { raised with
      sup := { s.sup with openScores := s.sup.openScores.set z.val 0 z.isLt } }) ∧
     (n + 1 = limit → (v = .faulted ∨ v = .locked) → openStrike z s = raised))) ∧
  ∀ (z : ZoneId) (s : State),
    (let n := s.sup.stuckScores[z]
     let limit := (s.zone z).cfg.stuckLimit
     let g := (s.zone z).cfg.group
     let added : LockedZone := { zone := z, openScore := s.sup.openScores[z], stuckScore := n + 1 }
     let raised : State := { s with
      sup := { s.sup with stuckScores := s.sup.stuckScores.set z.val (n + 1) z.isLt },
      reports := s.reports.offerAll (if n = 0 then [.zoneSuspect z .stuckOn 1] else []) }
     let out := raised.takenOut z .locked .zoneLocked
     (limit ≤ n → stuckStrike z s = s) ∧
     (n + 1 < limit → stuckStrike z s = raised) ∧
     (n + 1 = limit → (s.zone z).state = .locked → stuckStrike z s = raised) ∧
     (n + 1 = limit → (s.zone z).state ≠ .locked → (s.group g).state = .tripping →
      stuckStrike z s = submit (.zoneLocked z g (s.group g).record) { out with
        store := if (s.group g).record = 0 then s.store else { s.store with
          records := s.store.records.map fun r => if r.number = (s.group g).record then
            { r with lockedZones := r.lockedZones ++ [added] } else r } }) ∧
     (n + 1 = limit → (s.zone z).state ≠ .locked → (s.group g).state = .closed → s.storeSound →
      (let u := out.tripOf .zoneStuckOn (fun y => y == g) [added]
       stuckStrike z s = submit (.zoneLocked z g (u.group g).record) u)))

/-- R112: in LOCKED a reading joins the accumulation, at its instant, 100 µs after the one before. While
the mains is not LOCKED nothing is read. -/
def Obligations.IsenseReadingJoinsTheAccumulation : Prop :=
  ∀ (v : BitVec 12) (s : State),
    (s.mtu.state = .locked → exec (.isenseReading v) s = .next { s with
      now := max s.now (s.sup.readingsFrom + (s.sup.readings.length + 1) * 10),
      sup := { s.sup with readings := v.toNat :: s.sup.readings } }) ∧
    (s.mtu.state ≠ .locked → exec (.isenseReading v) s = .next s)

/-! ### What the blocks do at a zero crossing -/

/-- R110 to R115: supervision at a crossing in LOCKED: the supply check of the half-cycle that ends, the
supply score with its latch, which trips every group with cause SUPPLY_FAULT, and at a frame boundary the
leak and the clearing of every mark. The second part says the same of supervision's own part of the
crossing, whole, with the record and reports of the trip, and at a frame boundary the leak with ZONE_CLEARED
and SUPPLY_CLEARED. The third part is the lock crossing: no check,
and the leak of the frame that the loss interrupted (that it is followed by no comparison with the limit is
the model's reading, log entry 25). The record of a supply latch has the drive snapshot that the switch
stage holds as supervision takes the crossing, in either order of the two (the model's reading, log entry
27), and the withdrawals enter their reports in ascending zone number (the model's choice, log entry 13). -/
def Obligations.CrossingChecksTheSupplyAndLeaksTheScores : Prop :=
  (∀ (i : Instr) (s : State) (d : DriveRecord), s.sound → s.crossesAt i → s.switch.present = some d →
    ∃ t, exec i s = .next t ∧
      (let m := if s.sup.readings = [] then 0 else s.sup.readings.sum / s.sup.readings.length
       let tol := s.sup.offset + d.current * s.sup.percent / 100
       let bad : Bool := decide (d.current + tol < m) || decide (m + tol < d.current)
       let raised := if bad then s.sup.supplyScore + 1 else s.sup.supplyScore
       let held := if s.sup.limit ≤ raised then 0 else raised
       let atBoundary := ¬ s.mtu.h + 1 < s.mtu.len
       t.sup.lastCheck = some { frame := d.frame, h := d.h, expected := d.current, measured := m,
                                mismatch := bad } ∧
       (¬ atBoundary → t.sup.supplyScore = held ∧ t.sup.supplyChecked = true ∧
         t.sup.supplyFailed = (s.sup.supplyFailed || bad) ∧ t.sup.openScores = s.sup.openScores ∧
         t.sup.stuckScores = s.sup.stuckScores) ∧
       (atBoundary →
         t.sup.supplyScore = (if s.sup.supplyFailed || bad then held else held - s.sup.leak) ∧
         t.sup.supplyChecked = false ∧ t.sup.supplyFailed = false ∧ t.sup.openChecked = 0 ∧
         t.sup.openFailed = 0 ∧ t.sup.stuckChecked = 0 ∧ t.sup.stuckFailed = 0 ∧
         ∀ z : ZoneId,
           (let free := (s.zone z).state ≠ .faulted ∧ (s.zone z).state ≠ .locked
            t.sup.openScores[z] =
              (if free ∧ inZones s.sup.openChecked z = true ∧ inZones s.sup.openFailed z = false then
                s.sup.openScores[z] - s.sup.leak else s.sup.openScores[z]) ∧
            t.sup.stuckScores[z] =
              (if free ∧ inZones s.sup.stuckChecked z = true ∧
                inZones s.sup.stuckFailed z = false then
                s.sup.stuckScores[z] - s.sup.leak else s.sup.stuckScores[z]))) ∧
       let trippable := fun g => (s.group g).state = .closing ∨ (s.group g).state = .closed ∨
         (s.group g).state = .opening
       (s.sup.limit ≤ raised →
         (∀ g, trippable g → (t.group g).coil = false ∧ (t.group g).releasePending = false ∧
           (t.group g).state = if s.verified g then .tripped else .tripping) ∧
         ((∃ g, trippable g) → s.store.records.length < 8 → ∃ r ∈ t.store.records,
           r.number ≠ 0 ∧ r.cause = .supplyFault ∧ r.lockedZones = [] ∧
           ∀ g, inGroups r.groups g = true ↔ trippable g)) ∧
       t.sup.readings = [] ∧ t.sup.readingsFrom = t.now ∧ t.sup.sample = s.sup.sample)) ∧
  (∀ (c : Crossing) (s : State) (d : DriveRecord), s.storeSound → c.lock = false →
    s.switch.recordOf c.endedFrame c.endedH = some d → d.status ≠ .cutShort →
    (let t := takeCrossing c .supervision s
     let m := if s.sup.readings = [] then 0 else s.sup.readings.sum / s.sup.readings.length
     let tol := s.sup.offset + d.current * s.sup.percent / 100
     let bad : Bool := decide (d.current + tol < m) || decide (m + tol < d.current)
     let raised := if bad then s.sup.supplyScore + 1 else s.sup.supplyScore
     let checked : State := { s with
      sup := { s.sup with
        supplyScore := if s.sup.limit ≤ raised then 0 else raised,
        supplyChecked := true, supplyFailed := s.sup.supplyFailed || bad,
        lastCheck := some { frame := d.frame, h := d.h, expected := d.current, measured := m,
                            mismatch := bad } },
      reports := s.reports.offerAll
        (if bad = true ∧ s.sup.supplyScore = 0 then [.supplySuspect m d.current 1] else []) }
     let anew := fun u : State => { u with
      sup := { u.sup with readings := [], readingsFrom := u.now } }
     let after := fun u : State => if c.boundary then u.leaked else anew u
     (raised < s.sup.limit → t = after checked) ∧
     (s.sup.limit ≤ raised → t = after (checked.tripOf .supplyFault (fun _ => true) [])))) ∧
  ∀ (c : Crossing) (s : State), c.lock = true → c.boundary = true →
    takeCrossing c .supervision s = s.leaked

/-- R23, R24, R26: the zone table takes a frame boundary: demands above a new L are cut to it, leases run
down by one, and a lapsed lease gives way to the fallback, with LEASE_LAPSED. Nothing else changes. Several
LEASE_LAPSED of one boundary enter in ascending zone number (the model's choice, log entry 13). -/
def Obligations.ZoneTableRunsDownTheLeases : Prop :=
  ∀ (c : Crossing) (s : State), c.boundary = true →
    (let cutDemand := fun z : ZoneId =>
      if c.lChanged = true ∧ c.len < (s.zone z).demand then c.len else (s.zone z).demand
     let lapses := fun z : ZoneId => (s.zone z).state = .demand ∧ (s.zone z).leaseLeft = 1
     let fallback := fun z : ZoneId => min (s.zone z).cfg.fallback c.len
     takeCrossing c .zoneTable s = { s with
      zones := Vector.ofFn fun z =>
        if lapses z then
          { s.zone z with
            state := if fallback z = 0 then .idle else .demand,
            demand := fallback z, leaseLeft := 0 }
        else if (s.zone z).state = .demand then
          { s.zone z with demand := cutDemand z, leaseLeft := (s.zone z).leaseLeft - 1 }
        else s.zone z,
      reports := s.reports.offerAll
        (allZones.filterMap fun z =>
          if lapses z then some (.leaseLapsed z (fallback z)) else none) })

/-- R89 to R91, R93, R95, R98: the switch stage, taking a crossing in LOCKED before the other blocks,
drives a zone exactly when its group is CLOSED, the plan that governs the half-cycle holds it and stands,
and its source is what the zone wants; the lines, the record and the fired tallies follow. -/
def Obligations.SwitchStageDrivesByTheDriveLaw : Prop :=
  ∀ (i : Instr) (s : State), s.sound → s.crossesAt i →
    (i.takers = [] ∨ i.takers.head? = some .switchStage) →
    ∃ t d, exec i s = .next t ∧ t.switch.present = some d ∧ d.frame = t.mtu.frame ∧
      d.h = t.mtu.h ∧ (d.synthetic = true ↔ ∃ order, i = .windowExpiry order) ∧
      d.status = .opened ∧ d.set = t.switch.lines ∧
      d.current = (allZones.map fun z =>
        if inZones t.switch.lines z then (s.zone z).cfg.current else 0).sum ∧
      (∀ z, inZones t.switch.lines z = true ↔
        (s.groupOf z).state = .closed ∧ ∃ p, s.nextPlan = some p ∧
          (p.entries[z]).current = (s.zone z).cfg.current ∧
          (p.entries[z]).group = (s.zone z).cfg.group ∧ t.mtu.h ∈ (p.entries[z]).slots ∧
          s.wantsSource z (p.entries[z]).source) ∧
      (∀ z : ZoneId, t.switch.fired[z] = if inZones t.switch.lines z then
        min 4294967295 (s.switch.fired[z] + 1) else s.switch.fired[z]) ∧
      ∃ old, s.switch.present = some old ∧ t.switch.previous = some { old with status := .closed }

/-- R93: a drive line, and with it the drive records, changes only at a zero crossing, at a loss of mains
or at a reset. -/
def Obligations.DriveLinesChangeOnlyAtCrossingsLossAndReset : Prop :=
  ∀ (i : Instr) (s : State), ∃ t, exec i s = .next t ∧
    ((∀ time straps, i ≠ .powerOn time straps) → (∀ time straps, i ≠ .pinReset time straps) →
      (∀ time order, i ≠ .zxEdge time order) → (∀ order, i ≠ .windowExpiry order) →
      t.switch.lines = s.switch.lines ∧ t.switch.present = s.switch.present ∧
      t.switch.previous = s.switch.previous)

/-- R46, R47, R49, R53, R97: the order unit's part of a crossing: a driven head is counted, started,
and done when nothing remains; a HALTING head is confirmed and removed; the reports enter in zone
order. A DOSING zone whose queue this empties is IDLE. -/
def Obligations.CrossingCountsClaimsAndConfirmsHalts : Prop :=
  ∀ (c : Crossing) (s : State), (∀ z, queueSound (s.queue z)) →
    (let driven := fun z : ZoneId => s.drivesDose c.frame c.len c.h z = true
     ∀ z,
      (takeCrossing c .switchStage s).queue z =
        (match s.queue z with
         | [] => []
         | o :: rest =>
           if driven z then
             if o.remaining = 1 then rest
             else { o with
               fired := o.fired + 1, remaining := o.remaining - 1, state := .active } :: rest
           else if o.isHalting = true then rest else o :: rest) ∧
      (takeCrossing c .switchStage s).zone z =
        (if (s.zone z).state = .dosing ∧ s.queue z ≠ [] ∧
            (takeCrossing c .switchStage s).queue z = [] then
          { s.zone z with state := .idle } else s.zone z)) ∧
    (takeCrossing c .switchStage s).reports = s.reports.offerAll
      (allZones.flatMap fun z =>
        match s.queue z with
        | [] => []
        | o :: _ =>
          if s.drivesDose c.frame c.len c.h z then
            (if o.state = .planned then [Report.orderStarted z o.tag c.frame] else []) ++
              (if o.remaining = 1 then [.orderDone z o.tag o.total] else [])
          else match o.state with
            | .halting why => [.orderHalted z o.tag why o.fired o.remaining]
            | _ => [])

/-- R64, R65: at a frame boundary the switch stage reads the plan that the planner commits, whichever of
the two takes the boundary first: lines, records and committed plan come out the same. The premises are
those that R64, R65 and R91 give for a boundary. R45, R65, R66, R68 to R72, R83, R84: what the planner does
at it: the commit with the summary, the curtailed tallies and CURTAILED; then the cut, with the limits in
force, each zone's source and request, the mark on the chosen order, and the placement of the zones in the
order of service. Nothing else changes. An empty plan records the limits in force, and the new plan is
complete at once (the model's readings, log entries 10 and 11). -/
def Obligations.SwitchStageAndPlannerMayTakeABoundaryInEitherOrder : Prop :=
  (∀ (c : Crossing) (s : State), c.boundary = true →
    (∀ p, s.planner.committed = some p → p.frame ≠ c.frame) →
    (c.lChanged = true ∨ c.lock = true → ∀ p, s.planner.building = some p →
      ¬ (p.frame = c.frame ∧ p.len = c.len)) →
    (∀ p z o rest, s.planner.building = some p → s.queue z = o :: rest → o.state = .queued →
      (p.entries[z]).source ≠ .order o.handle) →
    (takeCrossing c .planner (takeCrossing c .switchStage s)).switch =
      (takeCrossing c .switchStage (takeCrossing c .planner s)).switch ∧
    (takeCrossing c .planner (takeCrossing c .switchStage s)).planner.committed =
      (takeCrossing c .switchStage (takeCrossing c .planner s)).planner.committed) ∧
  ∀ (c : Crossing) (s : State), c.boundary = true →
    (let t := takeCrossing c .planner s
     let empty := fun q : Plan => q.frame = c.frame ∧ q.len = c.len ∧ q.limits = s.planner.limits ∧
      ∀ z : ZoneId, (q.entries[z]).source = .none ∧ (q.entries[z]).requested = 0 ∧
        (q.entries[z]).granted = 0 ∧ (q.entries[z]).slots = []
     ∃ p, t.planner.committed = some p ∧
      (c.lChanged = true ∨ c.lock = true → empty p) ∧
      (c.lChanged = false → c.lock = false →
        (∀ b, s.planner.building = some b → b.frame = c.frame → b.len = c.len → p = b) ∧
        ((∀ b, s.planner.building = some b → ¬ (b.frame = c.frame ∧ b.len = c.len)) → empty p)) ∧
      (let stands := fun z : ZoneId => (p.entries[z]).current = (s.zone z).cfg.current ∧
        (p.entries[z]).group = (s.zone z).cfg.group
       let short := fun z : ZoneId =>
        if stands z then (p.entries[z]).requested - (p.entries[z]).granted else 0
       let curtailed : List CurtailedZone := allZones.filterMap fun z =>
        if 0 < short z then some { zone := z, requested := (p.entries[z]).requested,
                                   granted := (p.entries[z]).granted }
        else none
       let taken := s.switch.present.any fun r =>
        r.frame == c.frame && r.h == c.h && r.status == .opened
       let held := fun (z : ZoneId) (o : Order) =>
        if stands z ∧ (p.entries[z]).source = .order o.handle then
          ((p.entries[z]).slots.filter fun i => !(taken && i == 0)).length
        else 0
       let request := fun (z : ZoneId) (o : Order) =>
        if o.isHalting then 0 else min o.cap (min c.len (o.remaining - held z o))
       let cut : ZoneId → Source × Nat := fun z =>
        if (s.groupOf z).state = .closed then
          match (s.zone z).state with
          | .demand => (Source.continuous, min (s.zone z).demand c.len)
          | .dosing =>
            match s.queue z with
            | [] => (.none, 0)
            | o :: rest =>
              if 0 < request z o then (.order o.handle, request z o)
              else
                match rest with
                | [] => (.none, 0)
                | o2 :: _ =>
                  if 0 < request z o2 then (.order o2.handle, request z o2) else (.none, 0)
          | _ => (.none, 0)
        else (.none, 0)
       let planned := fun o : Order =>
        if o.state = .queued then { o with state := .planned } else o
       let marked := fun z : ZoneId =>
        if 0 < (cut z).2 ∧ (s.zone z).state = .dosing then
          match s.queue z with
          | [] => []
          | o :: rest =>
            if 0 < request z o then planned o :: rest
            else
              match rest with
              | [] => [o]
              | o2 :: os => o :: planned o2 :: os
        else s.queue z
       t = { s with
        orders := { s.orders with queues := Vector.ofFn marked },
        reports := if curtailed = [] then s.reports
          else s.reports.offer (.curtailed c.frame curtailed),
        planner := {
          pendingLimits := s.planner.pendingLimits, limits := s.planner.pendingLimits,
          committed := some p,
          summary := {
            frame := p.frame, len := p.len, limits := p.limits, governs := true,
            zones := Vector.ofFn fun z =>
              if stands z then { source := (p.entries[z]).source,
                                 requested := (p.entries[z]).requested,
                                 granted := (p.entries[z]).granted }
              else { source := .none, requested := 0, granted := 0 } },
          curtailed := Vector.ofFn fun z =>
            if short z = 0 then s.planner.curtailed[z]
            else min 4294967295 (s.planner.curtailed[z] + short z),
          building := some ((serviceOrder s (c.frame + 1)).foldl (placeZone s) {
            frame := c.frame + 1, len := c.len, limits := s.planner.pendingLimits,
            sums := List.replicate c.len { supply := 0, group := Vector.ofFn fun _ => 0 },
            entries := Vector.ofFn fun z => {
              source := (cut z).1, requested := (cut z).2, granted := 0, slots := [],
              current := (s.zone z).cfg.current, group := (s.zone z).cfg.group } }) } }))

/-- R80: whatever plan governs a half-cycle, the nominal currents of the zones that the drive law drives
in it sum to no more than the supply limit of that plan, and those of each group to no more than its
limit. Where no held plan governs, the plan is empty and no zone is driven. -/
def Obligations.DrivenCurrentsStayWithinThePlansLimits : Prop :=
  ∀ (s : State) (frame : BitVec 32) (len h : Nat),
    (∀ p : Plan, p.sound → s.governing frame len = some p →
      (allZones.map fun z => if s.drives frame len h z then (s.zone z).cfg.current else 0).sum
        ≤ p.limits.supply ∧
      ∀ g : GroupId,
        (allZones.map fun z => if s.drives frame len h z && (s.zone z).cfg.group == g then
          (s.zone z).cfg.current else 0).sum ≤ p.limits.group[g]) ∧
    (s.governing frame len = none → ∀ z, s.drives frame len h z = false)

/-! ### Placement -/

/-- R75 to R77: the ideal slots of a request of at most L are all different slots of the frame. A
half-cycle takes the first slot from its ideal slot on, wrapping, that neither holds the zone nor is full
for its current, and that slot's sums rise by the current; once every slot is skipped, every later
half-cycle of the zone is curtailed: no slot set, count or sum changes. A zone's half-cycles are placed in
increasing k, on the sums that the zones before it left. -/
def Obligations.IdealSlotsDifferAndCurtailmentLasts : Prop :=
  (∀ len offset r : Nat, r ≤ len →
    ((List.range r).map (idealSlot len offset r)).Nodup ∧
    ∀ k < r, idealSlot len offset r k < len ∧
      idealSlot len offset r k = (k * len / r + offset % len) % len) ∧
  (∀ (lim : Limits) (len offset : Nat) (e : Entry) (sums : List SlotSum), sums.length = len →
    (let skipped := fun h => h ∈ e.slots ∨ ∃ x, sums[h]? = some x ∧
      (lim.supply < x.supply + e.current ∨ lim.group[e.group] < x.group[e.group] + e.current)
     ((∀ h < len, skipped h) → ∀ k, placeHalfCycle lim len offset (e, sums) k = (e, sums)) ∧
     ∀ k i x, i < len →
      (let slot := fun j => (idealSlot len offset e.requested k + j) % len
       (∀ j < i, skipped (slot j)) → ¬ skipped (slot i) → sums[slot i]? = some x →
        placeHalfCycle lim len offset (e, sums) k =
          ({ e with slots := e.slots ++ [slot i], granted := e.granted + 1 },
           sums.set (slot i) {
            supply := x.supply + e.current,
            group := x.group.set e.group.val (x.group[e.group] + e.current) e.group.isLt })))) ∧
  ∀ (s : State) (p : Plan) (z : ZoneId),
    (let placed := (List.range (p.entries[z]).requested).foldl
      (placeHalfCycle p.limits p.len (s.zone z).cfg.offset) (p.entries[z], p.sums)
     placeZone s p z = { p with
      entries := p.entries.set z.val placed.1 z.isLt, sums := placed.2 })

/-- R74: every zone is served once, in ascending class, and within a class in ascending rotation key, the
zone number less the remainder of F divided by 24, modulo 24. -/
def Obligations.OrderOfServiceFollowsClassAndRotation : Prop :=
  ∀ (s : State) (frame : BitVec 32),
    (serviceOrder s frame).Nodup ∧ (∀ z, z ∈ serviceOrder s frame) ∧
    (serviceOrder s frame).Pairwise fun y z =>
      (s.zone y).cfg.prio < (s.zone z).cfg.prio ∨
      ((s.zone y).cfg.prio = (s.zone z).cfg.prio ∧
        (y.val + 24 - frame.toNat % 24) % 24 < (z.val + 24 - frame.toNat % 24) % 24)

/-- R43: the handle that the next accepted order takes is the counter's value or the first one after it
that no held order has and no held plan names as a source. The sources are those that both held plans
record, whether or not an entry stands or its plan governs (the model's reading, log entry 12). -/
def Obligations.NextHandleIsTheFirstFreeOne : Prop :=
  ∀ s : State, (∀ z, (s.queue z).length ≤ 4) →
    (let inUse := fun h : Half => (∃ z, ∃ o ∈ s.queue z, o.handle = h) ∨
      ∃ p, (s.planner.committed = some p ∨ s.planner.building = some p) ∧
        ∃ z : ZoneId, (p.entries[z]).source = .order h
     ¬ inUse s.nextHandle ∧
     ∃ k : Nat, k ≤ 144 ∧ s.nextHandle = s.orders.counter + BitVec.ofNat 16 k ∧
      ∀ j < k, inUse (s.orders.counter + BitVec.ofNat 16 j))

/-! ### Trip records -/

/-- R150, R151: a new record takes an empty slot, else that of the oldest released and resolved record,
else none; a stored one takes the first number from the next one on that no held record carries (a record
it discards is no longer held: the model's reading, log entry 26) and stands last in the creation order. -/
def Obligations.NewRecordTakesAFreeSlotAndNumber : Prop :=
  ∀ (st : TripStore) (r : TripRecord), st.records.length ≤ 8 → st.next ≠ 0 →
    (let after := fun m : Half => if m = 65535 then 1 else m + 1
     let firstFree := fun (n : Half) (held : List Half) => n ≠ 0 ∧ n ∉ held ∧
      ∃ k ≤ 8, n = after^[k] st.next ∧ ∀ j < k, after^[j] st.next ∈ held
     (st.records.length < 8 →
      ∃ n, (st.create r).2 = (n, none) ∧ firstFree n (st.records.map (·.number)) ∧
        (st.create r).1 = { st with
          records := st.records ++ [{ r with number := n }], next := after n }) ∧
     (∀ a b old, st.records.length = 8 → st.records = a ++ old :: b → old.replaceable = true →
      (∀ x ∈ a, x.replaceable = false) →
      ∃ n, (st.create r).2 = (n, some old.number) ∧ firstFree n ((a ++ b).map (·.number)) ∧
        (st.create r).1 = { st with
          records := a ++ b ++ [{ r with number := n }], next := after n }) ∧
     (st.records.length = 8 → (∀ x ∈ st.records, x.replaceable = false) →
      st.create r = ({ st with lost := min 65535 (st.lost + 1) }, 0, none)))

/-! ### Contactor inputs -/

/-- R123, R137: a raw KA or STOP line that departs from its debounced state starts the count of 4 ms, one
that returns ends it, and nothing else changes; STOP becoming deasserted is recorded and does nothing
more. The raw lines are operands with their instants (the model's choice, log entries 2 and 8). -/
def Obligations.RawLinesStartAndEndTheDebounceCount : Prop :=
  (∀ (time : Nat) (g : GroupId) (level : Bool) (s : State),
    exec (.rawInputChange time (.ka g) level) s = .next ((s.atTime time).setGroup g { s.group g with
      rawAux := level,
      rawAuxSince := if level = (s.group g).aux then none
        else if level = (s.group g).rawAux then (s.group g).rawAuxSince
        else some (max s.now time) })) ∧
  (∀ (time : Nat) (level : Bool) (s : State),
    exec (.rawInputChange time .stop level) s = .next { s with
      now := max s.now time,
      gcc := { s.gcc with
        rawStop := level,
        rawStopSince := if level = s.gcc.stop then none
          else if level = s.gcc.rawStop then s.gcc.rawStopSince
          else some (max s.now time) } }) ∧
  ∀ (since : Nat) (s : State), s.gcc.rawStopSince = some since → s.gcc.stop = true →
    exec .stopChange s = .next (txChoose { s with
      now := max s.now (since + 400),
      gcc := { s.gcc with stop := false, rawStopSince := none } })

/-- R123, R126, R129, R131, R138, R139: a changed aux in each group state, when its raw line has stayed
away for 4 ms: OPEN and TRIPPED start or stop the stuck-contact timer, CLOSING becomes CLOSED, OPENING
becomes OPEN, TRIPPING is tested (and stays TRIPPING with its verify timer while a configured zone of it
conducts in the sample, or there is no sample, in LOCKED), and WELDED records it. -/
def Obligations.AuxChangeIsHandledByTheGroupsState : Prop :=
  ∀ (g : GroupId) (since : Nat) (s : State), (s.group g).rawAuxSince = some since →
    (let s1 : State := s.atTime (since + 400)
     let v : Group := { s.group g with aux := !(s.group g).aux, rawAuxSince := none }
     ((v.state = .opened ∨ v.state = .tripped) → v.aux = true →
      exec (.auxChange g) s = .next (txChoose (s1.setGroup g { v with
        timer := some { kind := .stuckContact, expiry := s1.now + s.gcc.verifyWindow * 100 } }))) ∧
     ((v.state = .opened ∨ v.state = .tripped) → v.aux = false →
      exec (.auxChange g) s = .next (txChoose (s1.setGroup g { v with timer := none }))) ∧
     (v.state = .closing → v.aux = true →
      exec (.auxChange g) s = .next (txChoose (submit (.groupClosed g)
        (s1.setGroup g { v with state := .closed, timer := none })))) ∧
     (v.state = .opening → v.aux = false →
      exec (.auxChange g) s = .next (txChoose (submit (.groupOpened g)
        (s1.setGroup g { v with
          state := .opened, coil := false, releasePending := false, timer := none })))) ∧
     (v.state = .tripping → v.aux = false →
      (s.mtu.state = .locked → ∃ c, s.sup.sample = some c ∧ ∀ z, (s.zone z).cfg.group = g →
        (s.zone z).configured = true → inZones c.set z = false) →
      exec (.auxChange g) s = .next (txChoose (submit (.groupVerified g v.record)
        { s1.setGroup g { v with state := .tripped, timer := none } with
          store := if v.record = (0 : Half) then s.store
            else s.store.setOutcome v.record g .cleared }))) ∧
     (v.state = .tripping → v.aux = false → s.mtu.state = .locked →
      (∀ c, s.sup.sample = some c → ∃ z, (s.zone z).cfg.group = g ∧
        (s.zone z).configured = true ∧ inZones c.set z = true) →
      exec (.auxChange g) s = .next (txChoose (s1.setGroup g v))) ∧
     ((v.state = .tripping ∧ v.aux = true) ∨ v.state = .welded →
      exec (.auxChange g) s = .next (txChoose (s1.setGroup g v))))

/-- R126, R128: a close that is not confirmed in time leaves the group OPEN with its coil released; the
coil of an OPENING group with release pending is released at the next zero crossing, or at the release
deadline, and its open timer starts. -/
def Obligations.CloseTimeoutAndCoilRelease : Prop :=
  (∀ (g : GroupId) (e : Nat) (s : State),
    (s.group g).timer = some { kind := .close, expiry := e } →
    exec (.closeTimerExpiry g) s = .next (txChoose (submit (.groupCloseFailed g)
      ((s.atTime e).setGroup g { s.group g with
        state := .opened, coil := false, timer := none })))) ∧
  (∀ (g : GroupId) (e : Nat) (s : State),
    (s.group g).timer = some { kind := .release, expiry := e } →
    exec (.releaseDeadlineExpiry g) s = .next ((s.atTime e).setGroup g { s.group g with
      coil := false, releasePending := false,
      timer := some { kind := .opening,
                      expiry := max s.now e + s.gcc.openTimeout * 100 } })) ∧
  ∀ (c : Crossing) (s : State) (g : GroupId),
    (takeCrossing c .contactors s).group g =
      if (s.group g).state = .opening ∧ (s.group g).releasePending = true then
        { s.group g with
          coil := false, releasePending := false,
          timer := some { kind := .opening, expiry := s.now + s.gcc.openTimeout * 100 } }
      else s.group g

/-- R129, R131, R132, R133, R138 to R140, R142, R143: an open, stuck-contact or verify timer that expires
welds the group: its coil is released, its timer stopped, the master-trip latch set, a record holds the
outcome WELDED, GROUP_WELDED with that record's number is in the queue, and then every other CLOSING, CLOSED
or OPENING group is tripped with cause MASTER_TRIP, as one trip with its own record, GROUP_TRIPPED and
withdrawals. At the verify timer a group that is verified (its aux open and, in LOCKED, a sample in which no
configured zone of it conducts) becomes TRIPPED instead. The ORDER_HALTED reports of the withdrawals enter in
ascending zone number (the model's choice, log entry 13). -/
def Obligations.ExpiredContactorTimersWeldTheGroup : Prop :=
  (∀ (g : GroupId) (s : State), s.verified g = true ↔ (s.group g).aux = false ∧
    (s.mtu.state = .locked → ∃ c, s.sup.sample = some c ∧ ∀ z, (s.zone z).cfg.group = g →
      (s.zone z).configured = true → inZones c.set z = false)) ∧
  ∀ (g : GroupId) (e : Nat) (s : State),
    (let welds := fun (i : Instr) (cause : WeldCause) => ∃ t, exec i s = .next t ∧
      t.now = max s.now e ∧
      (t.group g).state = .welded ∧ (t.group g).coil = false ∧ (t.group g).timer = none ∧
      (t.group g).releasePending = false ∧ (t.group g).aux = (s.group g).aux ∧
      t.gcc.masterTrip = true ∧
      (∀ y, y ≠ g → ((s.group y).state = .closing ∨ (s.group y).state = .closed ∨
          (s.group y).state = .opening) →
        (t.group y).coil = false ∧ (t.group y).releasePending = false ∧
        ((t.group y).state = .tripping ∨ (t.group y).state = .tripped)) ∧
      (s.storeSound → s.store.records.length < 7 → ∃ r ∈ t.store.records,
        r.number = (t.group g).record ∧ r.number ≠ 0 ∧ r.outcomes[g] = .welded ∧
        (cause ≠ .verifyTimeout ∨ (s.group g).record = 0 → r.cause = .groupWeld) ∧
        (cause = .verifyTimeout → (s.group g).record ≠ 0 → r.number = (s.group g).record) ∧
        (s.reports.entries.length < 48 → ∃ x ∈ t.reports.entries,
          x.report = .groupWelded g cause r.number)) ∧
      (s.reports.entries.length < 48 → ∃ x ∈ t.reports.entries,
        x.report = .groupWelded g cause (((s.atTime e).weldOf g cause).group g).record) ∧
      (s.storeSound → t = txChoose
        (((s.atTime e).weldOf g cause).tripOf .masterTrip (fun y => y != g) []))
     ((s.group g).timer = some { kind := .opening, expiry := e } → (s.group g).aux = true →
      welds (.openTimerExpiry g) .openTimeout) ∧
     ((s.group g).timer = some { kind := .stuckContact, expiry := e } →
      welds (.stuckContactTimerExpiry g) .auxStuck) ∧
     ((s.group g).timer = some { kind := .verify, expiry := e } → (s.group g).state = .tripping →
      s.verified g = false → welds (.verifyTimerExpiry g) .verifyTimeout) ∧
     ((s.group g).timer = some { kind := .verify, expiry := e } → s.verified g = true →
      exec (.verifyTimerExpiry g) s = .next (txChoose (submit (.groupVerified g (s.group g).record)
        { (s.atTime e).setGroup g { s.group g with state := .tripped, timer := none } with
          store := if (s.group g).record = 0 then s.store
            else s.store.setOutcome (s.group g).record g .cleared }))))

/-- R124, R176, R185, R8, R9: a timer that is not running does not expire, and a window, a point or a
debounce count that is not running does not come: such a command changes nothing (the model's reading, log
entries 1 and 3). -/
def Obligations.StoppedTimersDoNotExpire : Prop :=
  ∀ s : State,
    (∀ g, (s.group g).timer.map (·.kind) ≠ some .close →
      exec (.closeTimerExpiry g) s = .next s) ∧
    (∀ g, (s.group g).timer.map (·.kind) ≠ some .release →
      exec (.releaseDeadlineExpiry g) s = .next s) ∧
    (∀ g, (s.group g).timer.map (·.kind) ≠ some .opening →
      exec (.openTimerExpiry g) s = .next s) ∧
    (∀ g, (s.group g).timer.map (·.kind) ≠ some .verify →
      exec (.verifyTimerExpiry g) s = .next s) ∧
    (∀ g, (s.group g).timer.map (·.kind) ≠ some .stuckContact →
      exec (.stuckContactTimerExpiry g) s = .next s) ∧
    (∀ g, (s.group g).rawAuxSince = none → exec (.auxChange g) s = .next s) ∧
    (s.gcc.rawStopSince = none → exec .stopChange s = .next s) ∧
    (s.link.rx.gap = none → exec .byteGapTimeout s = .next s) ∧
    (s.link.retransmitAt = none → exec .retransmitTimerExpiry s = .next s) ∧
    (∀ order, s.mtu.state ≠ .locked → exec (.windowExpiry order) s = .next s) ∧
    ∀ cs first, s.mtu.state ≠ .locked ∨ s.mtu.midDue = none →
      exec (.midHalfCyclePoint cs first) s = .next s

/-- R52, R130, R132 to R134, R136, R137: an asserted STOP and TRIP_ALL trip every group, and the aux of a
CLOSED group opening trips that group: the groups, the record, GROUP_TRIPPED with its number, the
withdrawals with their ORDER_HALTED reports, and the first tests; where no group is affected nothing is
recorded or reported. TRIP_ALL answers with the number of groups tripped. (Zones of a group in ascending
number: the model's choice, log entry 13.) -/
def Obligations.StopTripAllAndDropoutTripTheGroups : Prop :=
  (∀ (since : Nat) (s : State), s.storeSound → s.gcc.rawStopSince = some since →
    s.gcc.stop = false → exec .stopChange s = .next (txChoose (State.tripOf { s with
        now := max s.now (since + 400),
        gcc := { s.gcc with stop := true, rawStopSince := none } } .externalStop
      (fun _ => true) []))) ∧
  (∀ (hd : Header) (s : State), s.storeSound → s.accepts hd →
    exec (.tripAll hd) s = .next
      (((s.received hd).tripOf .host (fun _ => true) []).replying hd 0x5D .ok
        [BitVec.ofNat 8 (allGroups.countP fun g => decide ((s.group g).state = .closing ∨
          (s.group g).state = .closed ∨ (s.group g).state = .opening))])) ∧
  ∀ (g : GroupId) (since : Nat) (s : State), s.storeSound →
    (s.group g).rawAuxSince = some since → (s.group g).state = .closed → (s.group g).aux = true →
    exec (.auxChange g) s = .next (txChoose
      (State.tripOf ((s.atTime (since + 400)).setGroup g { s.group g with
        aux := false, rawAuxSince := none }) .dropout (fun y => y == g) []))

/-! ### The report queue -/

/-- R160 to R163, R169: a submitted report is generated unless its class is masked and it is ordinary; it
enters below 48 entries, and at 48 it is dropped, or, when critical, takes the place of the newest
ordinary entry never sent, those behind it numbered one lower. -/
def Obligations.ReportEntersEvictsOrIsLost : Prop :=
  ∀ (q : ReportQueue) (r : Report), q.sound →
    (let made := r.critical = true ∨ r.classBit = none ∨
      ∃ n, r.classBit = some n ∧ q.mask.getLsbD n = true
     let evictable := fun e : QueueEntry => e.report.critical = false ∧ e.everSent = false
     let lost := { q with
      generated := q.generated + 1, lost := q.lost + 1,
      lostPending := min 65535 (q.lostPending + 1),
      lostTotal := min 4294967295 (q.lostTotal + 1) }
     (¬ made → q.offer r = q) ∧
     (made → q.entries.length < 48 → q.offer r = { q with
      generated := q.generated + 1,
      entries := q.entries ++ [{ report := r, seq := q.nextSeq, sent := false, everSent := false }],
      nextSeq := q.nextSeq + 1, alert := true }) ∧
     (made → q.entries.length = 48 → r.critical = false → q.offer r = lost) ∧
     (∀ a e b, q.entries = a ++ e :: b → q.entries.length = 48 → r.critical = true → evictable e →
      (∀ x ∈ b, ¬ evictable x) → q.offer r = { lost with
        entries := a ++ (b.map fun x => { x with seq := x.seq - 1 }) ++
          [{ report := r, seq := q.nextSeq - 1, sent := false, everSent := false }] }) ∧
     (q.entries.length = 48 → r.critical = true → (∀ x ∈ q.entries, ¬ evictable x) →
      q.offer r = lost))

/-- R164, R166, R169, R178, R184: the acknowledgement of a valid host frame. Counted from the number of
the oldest entry, one within the ever-sent entries removes that many of the oldest, with REPORTS_LOST
where that frees places in a queue that lost reports, and lets an idle transmitter choose before the
frame's request is handled (R182; the model's reading, log entry 6); one beyond them is counted and
ignored. -/
def Obligations.AcknowledgementRemovesTheOldestEntries : Prop :=
  ∀ (a : Byte) (s : State), s.reports.sound →
    (let q := s.reports
     let k := (a - (q.nextSeq - BitVec.ofNat 8 q.entries.length)).toNat
     let sentOnce := q.entries.countP fun e => e.everSent
     let rest := { q with
      entries := q.entries.drop k, acknowledged := q.acknowledged + BitVec.ofNat 32 k,
      alert := decide (k < q.entries.length) }
     (k = 0 → applyAck a s = s) ∧
     (0 < k → k ≤ sentOnce → applyAck a s = txChoose { s with
      reports := if 0 < q.lostPending then
          { rest.offer (.reportsLost q.lostPending) with lostPending := 0 }
        else rest,
      link := { s.link with
        retransmitAt := if (q.entries.drop k).any (fun e => e.sent) then
          some (s.now + s.link.interval * 100) else none } }) ∧
     (sentOnce < k → applyAck a s = { s with
      link := { s.link with counters := { s.link.counters with
        ackRange := min 65535 (s.link.counters.ackRange + 1) } } }))

/-! ### The transmitter and the retransmit timer -/

/-- R167, R182, R184, R185: at the end of the frame on TXD the transmitter is idle and chooses again, and a
report frame's end starts a stopped retransmit timer while an entry is sent-unacknowledged. The expiry of
the timer returns every sent-unacknowledged entry to unsent, in its place and with its number, and stops
the timer. With no frame on TXD no frame ends: only the instant moves (the model's reading, log entry 1). -/
def Obligations.FrameEndStartsTheRetransmitTimerAndExpiryReturnsReports : Prop :=
  (∀ (time : Nat) (s : State),
    (∀ f, s.link.tx = .report f → exec (.txFrameEnd time) s = .next (txChoose { s with
      now := max s.now time,
      link := { s.link with
        tx := .idle,
        retransmitAt :=
          if s.link.retransmitAt = none ∧ s.reports.entries.any (fun e => e.sent) = true then
            some (max s.now time + s.link.interval * 100)
          else s.link.retransmitAt } })) ∧
    (∀ f, s.link.tx = .reply f → exec (.txFrameEnd time) s = .next (txChoose { s with
      now := max s.now time, link := { s.link with tx := .idle } })) ∧
    (s.link.tx = .idle → exec (.txFrameEnd time) s = .next (s.atTime time))) ∧
  ∀ (e : Nat) (s : State), s.link.retransmitAt = some e →
    exec .retransmitTimerExpiry s = .next (txChoose { s with
      now := max s.now e,
      reports := { s.reports with
        entries := s.reports.entries.map fun x => { x with sent := false } },
      link := { s.link with
        retransmitAt := none,
        counters := { s.link.counters with
          retransmit := min 65535 (s.link.counters.retransmit + 1) } } })

/-- R165, R182, R183: an idle transmitter takes the pending reply; with none pending it takes the oldest
unsent report while fewer than 4 are sent-unacknowledged, marking it sent and ever-sent; otherwise it
stays idle. A busy one goes on. R190, R192 to R194: the type codes and payloads of the reports (Tables 11-3,
11-8, 11-9) and the codes of Tables 11-6 and 11-7, in which replies and reports are written (widths as log
entry 21 reads R194). -/
def Obligations.TransmitterTakesTheReplyThenTheOldestReport : Prop :=
  (∀ s : State,
    (let sent := s.reports.entries.countP fun e => e.sent
     (s.link.tx ≠ .idle → txChoose s = s) ∧
     (∀ r, s.link.tx = .idle → s.link.replyPending = true → s.link.stored = some r →
      txChoose s = { s with link := { s.link with
        tx := .reply (frameBytes (r.num.zeroExtend 8) 0 r.type (r.result.code :: r.fields)),
        replyPending := false,
        counters := { s.link.counters with
          repliesSent := min 65535 (s.link.counters.repliesSent + 1) } } }) ∧
     (∀ a e b, s.link.tx = .idle → s.link.replyPending = false → sent < 4 →
      s.reports.entries = a ++ e :: b → (∀ x ∈ a, x.sent = true) → e.sent = false →
      txChoose s = { s with
        reports := { s.reports with
          entries := a ++ { e with sent := true, everSent := true } :: b },
        link := { s.link with
          tx := .report (frameBytes 0x40 e.seq e.report.typeCode e.report.payload),
          counters := { s.link.counters with
            reportsSent := min 65535 (s.link.counters.reportsSent + 1) } } }) ∧
     (s.link.replyPending = false → (4 ≤ sent ∨ ∀ e ∈ s.reports.entries, e.sent = true) →
      txChoose s = s))) ∧
  (let carries := fun (r : Report) (type : Byte) (bytes : List Byte) =>
    r.typeCode = type ∧ r.payload = bytes
   let le2 := fun v : Half => leBytes 2 v.toNat
   let byte := fun n : Nat => BitVec.ofNat 8 n
   (∀ cause n, carries (.startup cause n) 0x81 [cause.code, byte n]) ∧
   (∀ n, carries (.reportsLost n) 0x82 (leBytes 2 n)) ∧
   (∀ p f, carries (.mainsLocked p f) 0x83 (leBytes 2 p ++ leBytes 4 f.toNat)) ∧
   (∀ f h n, carries (.mainsLost f h n) 0x84 (leBytes 4 f.toNat ++ [byte h, byte n])) ∧
   (∀ z d, carries (.leaseLapsed z d) 0x85 [byte z.val, byte d]) ∧
   (∀ z, carries (.zoneFaulted z) 0x86 [byte z.val]) ∧
   (∀ z g n, carries (.zoneLocked z g n) 0x87 ([byte z.val, byte g.val] ++ le2 n)) ∧
   (∀ z tag f, carries (.orderStarted z tag f) 0x88 (byte z.val :: le2 tag ++ leBytes 4 f.toNat)) ∧
   (∀ z tag n, carries (.orderDone z tag n) 0x89 (byte z.val :: le2 tag ++ leBytes 2 n)) ∧
   (∀ z tag why f m, carries (.orderHalted z tag why f m) 0x8A
    (byte z.val :: le2 tag ++ why.code :: leBytes 2 f ++ leBytes 2 m)) ∧
   (∀ f zs, carries (.curtailed f zs) 0x8B (leBytes 4 f.toNat ++ byte zs.length ::
    zs.flatMap fun x => [byte x.zone.val, byte x.requested, byte x.granted])) ∧
   (∀ z k n, carries (.zoneSuspect z k n) 0x8C [byte z.val, k.code, byte n]) ∧
   (∀ z k, carries (.zoneCleared z k) 0x8D [byte z.val, k.code]) ∧
   (∀ m e n, carries (.supplySuspect m e n) 0x8E (leBytes 2 m ++ leBytes 2 e ++ [byte n])) ∧
   carries .supplyCleared 0x8F [] ∧
   (∀ g, carries (.groupClosed g) 0x90 [byte g.val]) ∧
   (∀ g, carries (.groupOpened g) 0x91 [byte g.val]) ∧
   (∀ g, carries (.groupCloseFailed g) 0x92 [byte g.val]) ∧
   (∀ g n, carries (.groupVerified g n) 0x93 (byte g.val :: le2 n)) ∧
   (∀ gs cause n, carries (.groupTripped gs cause n) 0x94
    ([byte gs.toNat, cause.code] ++ le2 n)) ∧
   (∀ g cause n, carries (.groupWelded g cause n) 0x95 ([byte g.val, cause.code] ++ le2 n))) ∧
  (let numbered := fun (first : Nat) (codes : List Byte) =>
    codes = (List.range codes.length).map fun i => BitVec.ofNat 8 (first + i)
   numbered 0 ([ResultCode.ok, .unknownRequest, .badLength, .range, .wrongState, .notConfigured,
    .ordersPending, .queueFull, .duplicateTag, .notFound, .groupsActive, .zonesActive, .zoneLocked,
    .groupNotOpen, .masterTripped, .stopActive, .recordPending].map (·.code)) ∧
   numbered 1 ([TripCause.zoneStuckOn, .supplyFault, .externalStop, .host, .dropout, .masterTrip,
    .groupWeld].map (·.code)) ∧
   numbered 1 ([WeldCause.openTimeout, .verifyTimeout, .auxStuck].map (·.code)) ∧
   numbered 1 ([HaltReason.aborted, .zoneDisabled, .zoneFault, .zoneLocked, .groupOpened,
    .groupTrip, .mainsLoss].map (·.code)) ∧
   numbered 0 ([GroupOutcome.notInSet, .pending, .cleared, .welded, .unverified].map (·.code)) ∧
   numbered 0 ([MainsState.searching, .locked, .lost].map (·.code)) ∧
   numbered 0 ([RecordStatus.opened, .closed, .cutShort].map (·.code)) ∧
   numbered 0 ([ZoneState.disabled, .idle, .demand, .dosing, .faulted, .locked].map (·.code)) ∧
   numbered 0 ([GroupState.opened, .closing, .closed, .opening, .tripping, .tripped,
    .welded].map (·.code)) ∧
   numbered 0 ([ScoreKind.openLoad, .stuckOn].map (·.code)) ∧
   numbered 0 ([ResetCause.powerOn, .pin].map (·.code)) ∧
   numbered 0 ([OrderState.queued, .planned, .active].map (·.code)) ∧
   (∀ why, (OrderState.halting why).code = 3 ∧ (OrderState.halting why).reasonCode = why.code) ∧
   (∀ o : OrderState, (∀ why, o ≠ .halting why) → o.reasonCode = 0) ∧
   Source.none.bytes = [0, 0, 0] ∧ Source.continuous.bytes = [1, 0, 0] ∧
   ∀ handle : Half, (Source.order handle).bytes = 2 :: leBytes 2 handle.toNat)

/-! ### The receiver -/

/-- R176, R177: what the receiver discards: bytes while hunting that are not SYNC, a frame with a stop-bit
error or a byte gap, a LEN outside 3 to 251, a CRC that disagrees, and a valid CRC with a set bit among
CTRL 7 to 4. Each abandoned frame raises its one counter, and nothing else changes. A byte that comes after
the gap has run out finds the frame abandoned and the receiver hunting (the model's reading, log entry 4). -/
def Obligations.ReceiverAbandonsBadFrames : Prop :=
  ∀ (time : Nat) (b : Byte) (ok : Bool) (s : State),
    (let dropped := fun f : LinkCounters → LinkCounters => { s with
      now := max s.now time,
      link := { s.link with
        rx := { state := .hunting, bytes := [], gap := none }, counters := f s.link.counters } }
     let framing := fun c : LinkCounters => { c with framing := min 65535 (c.framing + 1) }
     let bytes := s.link.rx.bytes ++ [b]
     let timely := ∀ e, s.link.rx.gap = some e → max s.now time ≤ e
     (s.link.rx = .idle → ok = false ∨ b ≠ 0xC5 →
      exec (.rxByte time b ok) s = .next (s.atTime time)) ∧
     (s.link.rx = .idle → ok = true → b = 0xC5 →
      exec (.rxByte time b ok) s = .next ((s.atTime time).setRx
        { state := .header, bytes := [0xC5], gap := some (max s.now time + 500) })) ∧
     (timely → s.link.rx.state ≠ .hunting → ok = false →
      exec (.rxByte time b ok) s = .next (dropped framing)) ∧
     (timely → s.link.rx.state = .header → ok = true → b.toNat < 3 ∨ 251 < b.toNat →
      exec (.rxByte time b ok) s =
        .next (dropped fun c => { c with length := min 65535 (c.length + 1) })) ∧
     (timely → s.link.rx.sound → s.link.rx.state = .check → ok = true →
      bytes.length = s.link.rx.len + 4 →
      leBytes 2 (crc16 ((bytes.drop 1).dropLast.dropLast)).toNat ≠ bytes.drop (s.link.rx.len + 2) →
      exec (.rxByte time b ok) s =
        .next (dropped fun c => { c with crc := min 65535 (c.crc + 1) })) ∧
     (timely → s.link.rx.sound → s.link.rx.state = .check → ok = true →
      bytes.length = s.link.rx.len + 4 →
      leBytes 2 (crc16 ((bytes.drop 1).dropLast.dropLast)).toNat = bytes.drop (s.link.rx.len + 2) →
      16 ≤ (bytes.getD 2 0).toNat →
      exec (.rxByte time b ok) s =
        .next (dropped fun c => { c with control := min 65535 (c.control + 1) })) ∧
     (∀ e, s.link.rx.gap = some e → e < max s.now time →
      (ok = false ∨ b ≠ 0xC5 → exec (.rxByte time b ok) s = .next (dropped framing)) ∧
      (ok = true → b = 0xC5 → exec (.rxByte time b ok) s = .next ((dropped framing).setRx
        { state := .header, bytes := [0xC5], gap := some (max s.now time + 500) }))) ∧
     ∀ e, s.link.rx.gap = some e →
      exec .byteGapTimeout s = .next { s with
        now := max s.now e,
        link := { s.link with
          rx := { state := .hunting, bytes := [], gap := none },
          counters := framing s.link.counters } })

/-- R176, R177: the bytes of a frame with a valid CRC and CTRL bits 7 to 4 zero, received one after another
without a gap above 5 ms by a hunting receiver, are served at the last byte, as the frame's number,
acknowledgement, type and payload, and leave the receiver hunting. -/
def Obligations.ValidFrameIsServedAtItsLastByte : Prop :=
  ∀ (num : BitVec 4) (ack type : Byte) (payload : List Byte) (first last : Nat)
    (rest : List Nat) (s : State),
    payload.length ≤ 248 → s.link.rx = .idle →
    rest.length + 1 = (frameBytes (num.zeroExtend 8) ack type payload).length →
    inStep first rest → rest.getLast? = some last →
    receiveAll ((first :: rest).zip (frameBytes (num.zeroExtend 8) ack type payload)) s =
      .next (serveFrame num ack type (parseRequest type payload) (s.atTime last))

/-! ### Requests -/

/-- R176, R177, R190, R191, Tables 11-1, 11-2, 11-4: a request's type and payload read back as the request
with every field, and a request command does what the bytes of its frame do when RX_BYTE brings them (log
entry 7 has request commands as complete frames). -/
def Obligations.RequestCommandIsItsFrameReceived : Prop :=
  (∀ r : Request, parseRequest r.typeCode r.payload = .ok r) ∧
  ∀ (i : Instr) (hd : Header) (r : Request) (first : Nat) (rest : List Nat) (s : State),
    i.requestOf = some (hd, r) → s.link.rx = .idle →
    rest.length + 1 = (requestFrame hd r).length → inStep first rest →
    rest.getLast? = some hd.time →
    receiveAll ((first :: rest).zip (requestFrame hd r)) s = exec i s

/-- R190 to R192, Table 11-4: an executed request of an unknown type, of a wrong length, or with a field
out of range is answered UNKNOWN_REQUEST with TYPE 0x40, BAD_LENGTH or RANGE, in that order, and changes
nothing beyond its acknowledgement, counters and reply. -/
def Obligations.ValidationRefusesUnknownTypesLengthsAndRanges : Prop :=
  (∀ (type : Byte) (p : List Byte), (∀ r : Request, r.typeCode ≠ type) →
    parseRequest type p = .error .unknownRequest) ∧
  (∀ (r : Request) (p : List Byte), p.length ≠ r.payload.length →
    parseRequest r.typeCode p = .error .badLength) ∧
  (∀ (hd : Header) (type : Byte) (p : List Byte) (code : ResultCode) (s : State), s.accepts hd →
    parseRequest type p = .error code →
    serveFrame hd.num hd.ack type (parseRequest type p) (s.atTime hd.time) =
      txChoose (let s1 : State := s.received hd
        { s1 with link := { s1.link with
          stored := some { num := hd.num, result := code, fields := [],
                           type := if code = .unknownRequest then 0x40 else type + 0x40 },
          lastNum := some hd.num, replyPending := true,
          counters := { s1.link.counters with
            executed := min 65535 (s1.link.counters.executed + 1) } } })) ∧
  ∀ (i : Instr) (hd : Header) (r : Request) (s : State), i.requestOf = some (hd, r) →
    s.accepts hd → ¬ r.fieldsInRange s.mtu.len →
    exec i s = .next ((s.received hd).replying hd (r.typeCode + 0x40) .range [])

/-- R179, R180: a request that comes while a reply is pending is dropped and counted; one that repeats the
last request number, LINK_SYNC apart, is answered from the stored reply; neither is executed. The
transmitter is busy while a reply is pending (R182, StepKeepsTheHostLinkSound). -/
def Obligations.BusyAndRepeatedRequestsAreNotExecuted : Prop :=
  ∀ (i : Instr) (hd : Header) (r : Request) (s : State), i.requestOf = some (hd, r) →
    (let s1 : State := s.received hd
     (s.link.replyPending = true → s.link.tx ≠ .idle → exec i s = .next (txChoose { s1 with
      link := { s1.link with counters := { s1.link.counters with
        busyDrop := min 65535 (s1.link.counters.busyDrop + 1) } } })) ∧
     (s.link.replyPending = false → s.link.lastNum = some hd.num → r ≠ .linkSync →
      exec i s = .next (txChoose { s1 with link := { s1.link with
        replyPending := true,
        counters := { s1.link.counters with
          duplicate := min 65535 (s1.link.counters.duplicate + 1) } } })))

/-- R173, R186: LINK_SYNC empties the report queue, forgets the stored reply and the last number, and
answers with the discarded count; the subscription mask stays. It is executed whatever its number. -/
def Obligations.LinkSyncEmptiesTheReportQueue : Prop :=
  ∀ (hd : Header) (s : State), s.link.replyPending = false →
    (let s1 : State := s.received hd
     let n := s1.reports.entries.length + s1.reports.lostPending
     exec (.linkSync hd) s = .next (({ s1 with
      reports := { s1.reports with
        entries := [], nextSeq := 0, lostPending := 0,
        lostTotal := min 4294967295 (s1.reports.lostTotal + s1.reports.entries.length),
        generated := 0, acknowledged := 0, lost := 0, alert := false },
      link := { s1.link with stored := none, lastNum := none, retransmitAt := none } }).replying hd
      0x43 .ok (leBytes 4 n)))

/-- R79, R118, R144, R170, R188: the requests that write settings, with what each writes and the reply of
the values now set (SET_LIMITS also of the limits in force). -/
def Obligations.SettingRequestsWriteTheirSettings : Prop :=
  ∀ (hd : Header) (s : State), s.accepts hd →
    (let s1 : State := s.received hd
     (∀ i : Half, 10 ≤ i.toNat → i.toNat ≤ 500 → exec (.setLinkTiming hd i) s =
      .next (({ s1 with link := { s1.link with interval := i.toNat } }).replying hd 0x44 .ok
        (Half.bytes i))) ∧
     (∀ m : BitVec 6, exec (.setSubscription hd (m.zeroExtend 8)) s =
      .next (({ s1 with reports := { s1.reports with mask := m } }).replying hd 0x46 .ok
        [m.zeroExtend 8])) ∧
     (∀ p a b c d : Half, p.toNat ≤ 4000 → a.toNat ≤ 2000 → b.toNat ≤ 2000 → c.toNat ≤ 2000 →
      d.toNat ≤ 2000 → exec (.setLimits hd p a b c d) s =
      .next (({ s1 with planner := { s1.planner with
        pendingLimits := { supply := p.toNat,
                           group := #v[a.toNat, b.toNat, c.toNat, d.toNat] } } }).replying hd
        0x53 .ok (Half.bytes p ++ Half.bytes a ++ Half.bytes b ++ Half.bytes c ++ Half.bytes d ++
          leBytes 2 s.planner.limits.supply ++
          allGroups.flatMap fun g => leBytes 2 s.planner.limits.group[g]))) ∧
     (∀ (l : Byte) (o : Half) (p m : Byte), l.toNat ≤ 15 → o.toNat ≤ 500 → p.toNat ≤ 50 →
      1 ≤ m.toNat → exec (.setSupervision hd l o p m) s =
      .next (({ s1 with sup := { s1.sup with
        leak := l.toNat, offset := o.toNat, percent := p.toNat, limit := m.toNat } }).replying hd
        0x58 .ok ([l] ++ Half.bytes o ++ [p, m]))) ∧
     ∀ c o v : Half, 20 ≤ c.toNat → c.toNat ≤ 1000 → 20 ≤ o.toNat → o.toNat ≤ 1000 →
      20 ≤ v.toNat → v.toNat ≤ 1000 → exec (.setContactorTiming hd c o v) s =
      .next (({ s1 with gcc := { s1.gcc with
        closeTimeout := c.toNat, openTimeout := o.toNat, verifyWindow := v.toNat } }).replying hd
        0x5E .ok (Half.bytes c ++ Half.bytes o ++ Half.bytes v)))

/-- R14, R120, R145, R171, R187, R189, R194: NOP, IDENTIFY and the queries of the whole part change
nothing, and their replies carry the fields as they stand (widths as log entry 21 reads R194). -/
def Obligations.QueriesOfThePartAnswerFromTheState : Prop :=
  ∀ (hd : Header) (s : State), s.accepts hd →
    (let s1 : State := s.received hd
     let m := s.mtu
     let q := s1.reports
     let u := s.sup
     let c := s1.link.counters
     exec (.nop hd) s = .next (s1.replying hd 0x41 .ok []) ∧
     exec (.identify hd) s =
      .next (s1.replying hd 0x42 .ok [0x24, 0x0E, 1, 24, 4, 4, 48, 4, 8]) ∧
     exec (.queryLink hd) s = .next (s1.replying hd 0x45 .ok
      (leBytes 4 s.link.rate.bitsPerSecond ++ leBytes 2 s.link.interval ++
        [if s1.link.retransmitAt = none then 0 else 1] ++
        [c.framesReceived, c.framing, c.length, c.crc, c.control, c.busyDrop, c.duplicate,
          c.ackRange, c.retransmit, c.executed, c.repliesSent, c.reportsSent].flatMap
          (leBytes 2))) ∧
     exec (.queryReportStatus hd) s = .next (s1.replying hd 0x47 .ok
      ([BitVec.ofNat 8 q.entries.length, BitVec.ofNat 8 (q.entries.countP fun e => !e.sent),
          BitVec.ofNat 8 (q.entries.countP fun e => e.sent), q.nextSeq] ++
        leBytes 2 q.lostPending ++ leBytes 4 q.lostTotal ++ leBytes 4 q.generated.toNat ++
        leBytes 4 q.acknowledged.toNat ++ leBytes 4 q.lost.toNat ++ [q.mask.zeroExtend 8])) ∧
     exec (.queryMains hd) s = .next (s1.replying hd 0x49 .ok
      ([m.state.code] ++ leBytes 2 m.period ++
        [BitVec.ofNat 8 m.h, BitVec.ofNat 8 m.len, BitVec.ofNat 8 m.pendingLen] ++
        leBytes 4 m.frame.toNat ++ leBytes 2 m.glitches ++ leBytes 2 m.coasts)) ∧
     exec (.querySupervision hd) s = .next (s1.replying hd 0x59 .ok
      ([BitVec.ofNat 8 u.leak] ++ leBytes 2 u.offset ++
        [BitVec.ofNat 8 u.percent, BitVec.ofNat 8 u.limit] ++
        (allZones.flatMap fun z =>
          [BitVec.ofNat 8 u.openScores[z], BitVec.ofNat 8 u.stuckScores[z]]) ++
        [BitVec.ofNat 8 u.supplyScore] ++
        (match u.lastCheck with
          | none => List.replicate 11 0
          | some k => [1] ++ leBytes 4 k.frame.toNat ++ [BitVec.ofNat 8 k.h] ++
              leBytes 2 k.expected ++ leBytes 2 k.measured ++ [if k.mismatch then 1 else 0]) ++
        (match u.sample with
          | none => List.replicate 9 0
          | some k => [1] ++ leBytes 4 k.frame.toNat ++ [BitVec.ofNat 8 k.h] ++
              leBytes 3 k.set.toNat))) ∧
     exec (.queryGroups hd) s = .next (s1.replying hd 0x5F .ok
      ((allGroups.flatMap fun g =>
          [(s.group g).state.code, if (s.group g).coil then 1 else 0,
            if (s.group g).aux then 1 else 0] ++ leBytes 2 (s.group g).record.toNat) ++
        [if s.gcc.masterTrip then 1 else 0, if s.gcc.stop then 1 else 0])))

/-- R38, R58, R64, R85, R86, R99, R155, R157, R194, Table 11-10: the queries of a zone, its orders, its
plan and its tallies, the frame summary and the trip record store change nothing, and their replies carry
the fields as they stand (widths as log entry 21 reads R194). -/
def Obligations.QueriesOfZonesPlansAndRecordsAnswerFromTheState : Prop :=
  ∀ (hd : Header) (s : State), s.accepts hd →
    (let s1 : State := s.received hd
     let y := s.planner.summary
     let limits := fun l : Limits =>
      leBytes 2 l.supply ++ allGroups.flatMap fun g => leBytes 2 l.group[g]
     (∀ z, exec (.queryZone hd (zoneByte z)) s = .next (s1.replying hd 0x4F .ok
      (let v : Zone := s.zone z
       [v.state.code, if v.configured then 1 else 0, groupByte v.cfg.group] ++
        leBytes 2 v.cfg.current ++
        [BitVec.ofNat 8 v.cfg.prio.val, BitVec.ofNat 8 v.cfg.offset, BitVec.ofNat 8 v.cfg.lease,
          BitVec.ofNat 8 v.cfg.fallback, BitVec.ofNat 8 v.cfg.openLimit,
          BitVec.ofNat 8 v.cfg.stuckLimit, BitVec.ofNat 8 v.demand, BitVec.ofNat 8 v.leaseLeft,
          BitVec.ofNat 8 s.sup.openScores[z], BitVec.ofNat 8 s.sup.stuckScores[z],
          BitVec.ofNat 8 (s.queue z).length] ++
        match s.queue z with
        | [] => [0, 0, 0, 0, 0, 0]
        | o :: _ => leBytes 2 o.tag.toNat ++ leBytes 2 o.fired ++ leBytes 2 o.remaining))) ∧
     (∀ z, exec (.queryOrders hd (zoneByte z)) s = .next (s1.replying hd 0x52 .ok
      (BitVec.ofNat 8 (s.queue z).length :: (s.queue z).flatMap fun o =>
        leBytes 2 o.tag.toNat ++ leBytes 2 o.handle.toNat ++ leBytes 2 o.total ++
          [BitVec.ofNat 8 o.cap] ++ leBytes 2 o.fired ++ leBytes 2 o.remaining ++
          [o.state.code, o.state.reasonCode]))) ∧
     (∀ z, exec (.queryPlan hd (zoneByte z)) s = .next (s1.replying hd 0x54 .ok
      (let p := s.governing s.mtu.frame s.mtu.len
       let e := s.readEntry p z
       [if p = none then 0 else 1] ++ leBytes 4 s.mtu.frame.toNat ++ [BitVec.ofNat 8 s.mtu.len] ++
        e.source.bytes ++ [BitVec.ofNat 8 e.requested, BitVec.ofNat 8 e.granted] ++
        leBytes 16 (slotMask e.slots).toNat))) ∧
     exec (.queryFrameSummary hd) s = .next (s1.replying hd 0x55 .ok
      (leBytes 4 y.frame.toNat ++ [BitVec.ofNat 8 y.len, if y.governs then 1 else 0] ++
        limits y.limits ++ limits s.planner.pendingLimits ++
        allZones.flatMap fun z => (y.zones[z]).source.bytes ++
          [BitVec.ofNat 8 (y.zones[z]).requested, BitVec.ofNat 8 (y.zones[z]).granted])) ∧
     (∀ z, exec (.queryTally hd (zoneByte z)) s = .next (s1.replying hd 0x56 .ok
      ([zoneByte z] ++ leBytes 4 s.switch.fired[z] ++ leBytes 4 s.planner.curtailed[z] ++
        [if inZones s.switch.lines z then 1 else 0]))) ∧
     (∀ (n : Half) (a : List TripRecord) (r : TripRecord) (b : List TripRecord),
      (let named := fun x : TripRecord => if n = 0 then x.released = false else x.number = n
       s.store.records = a ++ r :: b → named r → (∀ x ∈ a, ¬ named x) →
        exec (.readTripRecord hd n) s = .next (s1.replying hd 0x60 .ok
          (leBytes 2 r.number.toNat ++ [r.cause.code, BitVec.ofNat 8 r.groups.toNat,
            BitVec.ofNat 8 ((if r.released then 1 else 0) + (if r.drive.isSome then 2 else 0) +
              (if r.supply.isSome then 4 else 0) + (if r.conduction.isSome then 8 else 0) +
              (if r.drive.any (·.synthetic) then 16 else 0))] ++
            leBytes 4 r.frame.toNat ++ [BitVec.ofNat 8 r.h, r.mains.code] ++
            (match r.drive with
              | none => List.replicate 9 0
              | some k => leBytes 4 k.frame.toNat ++ [BitVec.ofNat 8 k.h, k.status.code] ++
                  leBytes 3 k.set.toNat) ++
            (match r.supply with
              | none => List.replicate 9 0
              | some k => leBytes 4 k.frame.toNat ++ [BitVec.ofNat 8 k.h] ++
                  leBytes 2 k.expected ++ leBytes 2 k.measured) ++
            (match r.conduction with
              | none => List.replicate 8 0
              | some k => leBytes 4 k.frame.toNat ++ [BitVec.ofNat 8 k.h] ++
                  leBytes 3 k.set.toNat) ++
            [BitVec.ofNat 8 r.aux.toNat] ++ (allGroups.map fun g => (r.outcomes[g]).code) ++
            [BitVec.ofNat 8 r.lockedZones.length] ++ r.lockedZones.flatMap fun x =>
              [zoneByte x.zone, BitVec.ofNat 8 x.openScore, BitVec.ofNat 8 x.stuckScore])))) ∧
     (∀ n : Half, (∀ x ∈ s.store.records, if n = 0 then x.released = true else x.number ≠ n) →
      exec (.readTripRecord hd n) s = .next (s1.replying hd 0x60 .notFound [])) ∧
     exec (.queryTripStore hd) s = .next (s1.replying hd 0x62 .ok
      ([BitVec.ofNat 8 s.store.records.length] ++ (s.store.records.flatMap fun r =>
          leBytes 2 r.number.toNat ++ [r.cause.code,
            if (∃ g : GroupId, r.outcomes[g] = .pending) then 1 else 0,
            if r.released then 1 else 0]) ++
        leBytes 2 s.store.next.toNat ++ leBytes 2 s.store.lost)))

/-- R13: SET_FRAME is taken only while every group is OPEN and no zone is in DEMAND or DOSING; it writes
the pending L, and L too unless the mains is LOCKED. -/
def Obligations.SetFrameNeedsEveryGroupOpenAndNoZoneActive : Prop :=
  ∀ (hd : Header) (l : Byte) (s : State), s.accepts hd → 8 ≤ l.toNat → l.toNat ≤ 128 →
    (let s1 : State := s.received hd
     let allOpen := ∀ g, (s.group g).state = .opened
     let noneActive := ∀ z, (s.zone z).state ≠ .demand ∧ (s.zone z).state ≠ .dosing
     let inForce := if s.mtu.state = .locked then s.mtu.len else l.toNat
     (¬ allOpen → exec (.setFrame hd l) s = .next (s1.replying hd 0x48 .groupsActive [])) ∧
     (allOpen → ¬ noneActive →
      exec (.setFrame hd l) s = .next (s1.replying hd 0x48 .zonesActive [])) ∧
     (allOpen → noneActive → exec (.setFrame hd l) s = .next (({ s1 with
      mtu := { s1.mtu with len := inForce, pendingLen := l.toNat } }).replying hd 0x48 .ok
      [BitVec.ofNat 8 inForce, l])))

/-- R19 to R21, R29, R36, R37, R52, R108: CONFIG_ZONE, ENABLE_ZONE, DISABLE_ZONE and CLEAR_ZONE: the states
that take them, what they write of the zone and its scores, and their refusals. DISABLE_ZONE halts the
zone's orders, with ORDER_HALTED for each removed at once, and answers with the number halted. -/
def Obligations.ConfigEnableDisableAndClearAZone : Prop :=
  ∀ (hd : Header) (z : ZoneId) (s : State), s.accepts hd →
    (let s1 : State := s.received hd
     let v : Zone := s.zone z
     let written := fun (w : Zone) => { s1 with
      zones := s1.zones.set z.val w z.isLt,
      sup := { s1.sup with
        openScores := s1.sup.openScores.set z.val 0 z.isLt,
        stuckScores := s1.sup.stuckScores.set z.val 0 z.isLt } }
     (∀ (g : GroupId) (c : Half) (p : Fin 4) (o l f ol sl : Byte),
      1 ≤ c.toNat → c.toNat ≤ 500 → o.toNat ≤ 127 → f.toNat ≤ 128 → 1 ≤ ol.toNat → 1 ≤ sl.toNat →
      exec (.configZone hd (zoneByte z) (groupByte g) c (groupByte p) o l f ol sl) s =
        .next (if v.state = .disabled then
          (written { v with
            configured := true,
            cfg := { group := g, current := c.toNat, prio := p, offset := o.toNat,
                     lease := l.toNat, fallback := f.toNat, openLimit := ol.toNat,
                     stuckLimit := sl.toNat } }).replying hd 0x4A .ok []
        else s1.replying hd 0x4A .wrongState [])) ∧
     exec (.enableZone hd (zoneByte z)) s =
      .next (if v.state ≠ .disabled then s1.replying hd 0x4B .wrongState []
        else if v.configured = false then s1.replying hd 0x4B .notConfigured []
        else (s1.setZone z { v with state := .idle, demand := 0, leaseLeft := 0 }).replying hd
          0x4B .ok []) ∧
     (v.state = .locked →
      exec (.disableZone hd (zoneByte z)) s = .next (s1.replying hd 0x4C .zoneLocked [])) ∧
     (v.state = .disabled →
      exec (.disableZone hd (zoneByte z)) s = .next (s1.replying hd 0x4C .ok [0])) ∧
     (v.state ≠ .locked → v.state ≠ .disabled → exec (.disableZone hd (zoneByte z)) s =
      .next (State.replying { s1.takenOut z .disabled .zoneDisabled with
        sup := { s1.sup with
          openScores := s1.sup.openScores.set z.val 0 z.isLt,
          stuckScores := s1.sup.stuckScores.set z.val 0 z.isLt } } hd 0x4C .ok
        [BitVec.ofNat 8 (match s.queue z with
          | [] => 0
          | o :: rest => rest.length + if o.isHalting then 0 else 1)])) ∧
     exec (.clearZone hd (zoneByte z)) s =
      .next (if v.state = .faulted ∨ (v.state = .locked ∧ (s.groupOf z).state = .opened) then
          (written { v with state := .idle, demand := 0, leaseLeft := 0 }).replying hd 0x4E .ok []
        else if v.state = .locked then s1.replying hd 0x4E .groupNotOpen []
        else s1.replying hd 0x4E .wrongState []))

/-- R22, R25: SET_DEMAND on a zone in IDLE or DEMAND: a demand above 0 puts it in DEMAND with the lease it
is configured with, and 0 puts it in IDLE; ORDERS_PENDING in DOSING, WRONG_STATE otherwise. -/
def Obligations.SetDemandStartsAndEndsAZonesDemand : Prop :=
  ∀ (hd : Header) (z : ZoneId) (d : Byte) (s : State), s.accepts hd → d.toNat ≤ s.mtu.len →
    (let s1 : State := s.received hd
     let v : Zone := s.zone z
     ((v.state = .idle ∨ v.state = .demand) → d = 0 →
      exec (.setDemand hd (zoneByte z) d) s = .next
        ((s1.setZone z { v with state := .idle, demand := 0, leaseLeft := 0 }).replying hd
          0x4D .ok [0, 0])) ∧
     ((v.state = .idle ∨ v.state = .demand) → d ≠ 0 →
      exec (.setDemand hd (zoneByte z) d) s = .next
        ((s1.setZone z { v with
          state := .demand, demand := d.toNat, leaseLeft := v.cfg.lease }).replying hd
          0x4D .ok [d, BitVec.ofNat 8 v.cfg.lease])) ∧
     (v.state = .dosing → exec (.setDemand hd (zoneByte z) d) s =
      .next (s1.replying hd 0x4D .ordersPending [])) ∧
     (v.state = .disabled ∨ v.state = .faulted ∨ v.state = .locked →
      exec (.setDemand hd (zoneByte z) d) s = .next (s1.replying hd 0x4D .wrongState [])))

/-- R27, R41, R43, R44: QUEUE_ORDER appends a QUEUED order with the next handle and puts the zone in
DOSING, or is refused, WRONG_STATE before QUEUE_FULL before DUPLICATE_TAG. -/
def Obligations.QueueOrderAppendsAnOrder : Prop :=
  ∀ (hd : Header) (z : ZoneId) (tag total : Half) (cap : Byte) (s : State), s.accepts hd →
    tag ≠ 0 → total ≠ 0 → 1 ≤ cap.toNat → cap.toNat ≤ 128 →
    (let s1 : State := s.received hd
     let v : Zone := s.zone z
     let shut := v.state = .disabled ∨ v.state = .faulted ∨ v.state = .locked
     let held := ∃ o ∈ s.queue z, o.tag = tag
     let taken : Zone := if v.state = .dosing then v
       else { v with state := .dosing, demand := 0, leaseLeft := 0 }
     let order : Order := { tag := tag, handle := s.nextHandle, total := total.toNat,
                            cap := cap.toNat, fired := 0, remaining := total.toNat,
                            state := .queued }
     (shut → exec (.queueOrder hd (zoneByte z) tag total cap) s =
      .next (s1.replying hd 0x50 .wrongState [])) ∧
     (¬ shut → 4 ≤ (s.queue z).length → exec (.queueOrder hd (zoneByte z) tag total cap) s =
      .next (s1.replying hd 0x50 .queueFull [])) ∧
     (¬ shut → (s.queue z).length < 4 → held →
      exec (.queueOrder hd (zoneByte z) tag total cap) s =
      .next (s1.replying hd 0x50 .duplicateTag [])) ∧
     (¬ shut → (s.queue z).length < 4 → ¬ held →
      exec (.queueOrder hd (zoneByte z) tag total cap) s = .next (({ s1 with
        zones := s1.zones.set z.val taken z.isLt,
        orders := {
          queues := s1.orders.queues.set z.val (s.queue z ++ [order]) z.isLt,
          counter := s.nextHandle + 1 } }).replying hd 0x50 .ok (Half.bytes s.nextHandle))))

/-- R50, R51, R28, Table 3-4: ABORT_ORDER removes a QUEUED or PLANNED order at once, a PLANNED or ACTIVE
head excepted, which becomes HALTING until the next zero crossing; a zone left in DOSING with no order is
IDLE. A HALTING order is refused with WRONG_STATE, and an absent tag with NOT_FOUND. -/
def Obligations.AbortOrderRemovesOrHalts : Prop :=
  ∀ (hd : Header) (z : ZoneId) (tag : Half) (s : State), s.accepts hd → tag ≠ 0 →
    (let s1 : State := s.received hd
     let v : Zone := s.zone z
     let rested := fun q : List Order =>
      if q = [] ∧ v.state = ZoneState.dosing then { v with state := ZoneState.idle } else v
     let left := fun q : List Order => { s1 with
      zones := s1.zones.set z.val (rested q) z.isLt,
      orders := { s1.orders with queues := s1.orders.queues.set z.val q z.isLt } }
     let counts := fun o : Order => leBytes 2 o.fired ++ leBytes 2 o.remaining
     ((∀ o ∈ s.queue z, o.tag ≠ tag) → exec (.abortOrder hd (zoneByte z) tag) s =
      .next (s1.replying hd 0x51 .notFound [])) ∧
     (∀ o rest, s.queue z = o :: rest → o.tag = tag →
      (o.isHalting = true → exec (.abortOrder hd (zoneByte z) tag) s =
        .next (s1.replying hd 0x51 .wrongState [])) ∧
      (o.state = .queued → exec (.abortOrder hd (zoneByte z) tag) s =
        .next ((left rest).replying hd 0x51 .ok (0 :: counts o))) ∧
      (o.state = .planned ∨ o.state = .active → exec (.abortOrder hd (zoneByte z) tag) s =
        .next ((s1.setQueue z ({ o with state := .halting .aborted } :: rest)).replying hd
          0x51 .ok (1 :: counts o)))) ∧
     (∀ a o b, s.queue z = a ++ o :: b → a ≠ [] → o.tag = tag →
      (∀ x ∈ a ++ b, x.tag ≠ tag) → exec (.abortOrder hd (zoneByte z) tag) s =
        .next ((left (a ++ b)).replying hd 0x51 .ok (0 :: counts o))))

/-- R125, R141: CLOSE_GROUP starts a close when no latch, STOP, LOCKED zone, state or aux forbids it, its
refusals in that order; ACK_TRIP returns a TRIPPED group to OPEN and its record number to 0. -/
def Obligations.CloseGroupAndAckTrip : Prop :=
  ∀ (hd : Header) (g : GroupId) (s : State), s.accepts hd →
    (let s1 : State := s.received hd
     let v : Group := s.group g
     exec (.closeGroup hd (groupByte g)) s = .next (
      if s.gcc.masterTrip = true then s1.replying hd 0x5A .masterTripped []
      else if s.gcc.stop = true then s1.replying hd 0x5A .stopActive []
      else if (∃ z, (s.zone z).cfg.group = g ∧ (s.zone z).state = .locked) then
        s1.replying hd 0x5A .zoneLocked []
      else if v.state ≠ .opened ∨ v.aux = true then s1.replying hd 0x5A .wrongState []
      else (s1.setGroup g { v with
        state := .closing, coil := true,
        timer := some { kind := .close, expiry := max s.now hd.time + s.gcc.closeTimeout * 100 }
        }).replying hd 0x5A .ok []) ∧
     exec (.ackTrip hd (groupByte g)) s = .next (
      if v.state = .tripped then
        (s1.setGroup g { v with state := .opened, record := 0 }).replying hd 0x5C .ok []
      else s1.replying hd 0x5C .wrongState []))

/-- R127 to R129, Table 7-5: OPEN_GROUP on a CLOSED group withdraws its zones and leaves it OPENING, with
the coil still asserted until a zero crossing or the release deadline while the mains is LOCKED, and
released at once while it is not; on a CLOSING group it is OPEN at once, with GROUP_OPENED. The ORDER_HALTED
reports of the orders removed at once enter first (zones in ascending number: the model's choice, log entry
13). On an OPENING or OPEN one it only answers, and in the other states it is refused. -/
def Obligations.OpenGroupWithdrawsThenReleasesTheCoil : Prop :=
  ∀ (hd : Header) (g : GroupId) (s : State), s.accepts hd →
    (let s1 : State := s.received hd
     let v : Group := s.group g
     let opens := fun (w : Group) (last : List Report) =>
      exec (.openGroup hd (groupByte g)) s = .next
        (let out := s1.withdrawnOf (fun y => y == g) .groupOpened
         State.replying { out with
          gcc := { s.gcc with groups := s.gcc.groups.set g.val w g.isLt },
          reports := out.reports.offerAll last } hd 0x5B .ok [w.state.code])
     (v.state = .closed → v.aux = true → s.mtu.state = .locked → opens { v with
      state := .opening, releasePending := true,
      timer := some { kind := .release, expiry := max s.now hd.time + 1250 } } []) ∧
     (v.state = .closed → v.aux = true → s.mtu.state ≠ .locked → opens { v with
      state := .opening, coil := false, releasePending := false,
      timer := some { kind := .opening,
                      expiry := max s.now hd.time + s.gcc.openTimeout * 100 } } []) ∧
     (v.state = .closing → v.aux = false → opens { v with
      state := .opened, coil := false, releasePending := false, timer := none } [.groupOpened g]) ∧
     (v.state = .opening ∨ v.state = .opened → exec (.openGroup hd (groupByte g)) s =
      .next (s1.replying hd 0x5B .ok [v.state.code])) ∧
     (v.state = .tripping ∨ v.state = .tripped ∨ v.state = .welded →
      exec (.openGroup hd (groupByte g)) s = .next (s1.replying hd 0x5B .wrongState [])))

/-- R100, R156: CLEAR_TALLY zeroes both tallies of one zone or of all and answers with what they summed to;
RELEASE_TRIP_RECORD marks a resolved record released. -/
def Obligations.ClearTallyAndReleaseTripRecord : Prop :=
  ∀ (hd : Header) (s : State), s.accepts hd →
    (let s1 : State := s.received hd
     (∀ x : Byte, x.toNat ≤ 23 ∨ x = 255 →
      (let picked := fun z : ZoneId => x = 255 ∨ x = zoneByte z
       let sum := fun t : Vector Nat 24 =>
        min 4294967295 (allZones.map fun z => if picked z then t[z] else 0).sum
       exec (.clearTally hd x) s = .next (({ s1 with
        switch := { s1.switch with
          fired := Vector.ofFn fun z => if picked z then 0 else s.switch.fired[z] },
        planner := { s1.planner with
          curtailed := Vector.ofFn fun z => if picked z then 0 else s.planner.curtailed[z] }
        }).replying hd 0x57 .ok
        ([x] ++ leBytes 4 (sum s.switch.fired) ++ leBytes 4 (sum s.planner.curtailed))))) ∧
     (∀ n : Half, n ≠ 0 → (∀ r ∈ s.store.records, r.number ≠ n) →
      exec (.releaseTripRecord hd n) s = .next (s1.replying hd 0x61 .notFound [])) ∧
     ∀ a r b, s.store.records = a ++ r :: b → r.number ≠ 0 →
      (∀ x ∈ a ++ b, x.number ≠ r.number) →
      ((∃ g : GroupId, r.outcomes[g] = .pending) →
        exec (.releaseTripRecord hd r.number) s =
          .next (s1.replying hd 0x61 .recordPending [])) ∧
      ((∀ g : GroupId, r.outcomes[g] ≠ .pending) →
        exec (.releaseTripRecord hd r.number) s = .next (({ s1 with
          store := { s1.store with
            records := a ++ { r with released := true } :: b } }).replying hd 0x61 .ok [])))
end

