-- ==== Sys2Proof/Laws/State.lean ====
section
/-! SUPPORT. What the updates of the state write and what they leave: one lemma per field per update, each
true by rfl, so that no later proof unfolds a record update. Each lemma of the form `<update>_keeps` is one
conjunction, which simp reads as one rewrite rule per field. -/

namespace Sys2Proof.Machine

variable (s : State)

@[simp] theorem atTime_keeps (t : Nat) :
    (s.atTime t).mtu = s.mtu ∧
      (s.atTime t).zones = s.zones ∧
      (s.atTime t).orders = s.orders ∧
      (s.atTime t).planner = s.planner ∧
      (s.atTime t).switch = s.switch ∧
      (s.atTime t).sup = s.sup ∧
      (s.atTime t).gcc = s.gcc ∧
      (s.atTime t).store = s.store ∧
      (s.atTime t).reports = s.reports ∧
      (s.atTime t).link = s.link ∧
      (s.atTime t).pending = s.pending ∧
      (∀ y : ZoneId, (s.atTime t).zone y = s.zone y) ∧
      (∀ y : ZoneId, (s.atTime t).queue y = s.queue y) ∧
      (∀ y : GroupId, (s.atTime t).group y = s.group y) :=
  ⟨rfl, rfl, rfl, rfl, rfl, rfl, rfl, rfl, rfl, rfl, rfl, fun _ => rfl, fun _ => rfl, fun _ => rfl⟩

@[simp] theorem atTime_now (t : Nat) : (s.atTime t).now = max s.now t := rfl

@[simp] theorem setZone_keeps (z : ZoneId) (v : Zone) :
    (s.setZone z v).now = s.now ∧
      (s.setZone z v).mtu = s.mtu ∧
      (s.setZone z v).orders = s.orders ∧
      (s.setZone z v).planner = s.planner ∧
      (s.setZone z v).switch = s.switch ∧
      (s.setZone z v).sup = s.sup ∧
      (s.setZone z v).gcc = s.gcc ∧
      (s.setZone z v).store = s.store ∧
      (s.setZone z v).reports = s.reports ∧
      (s.setZone z v).link = s.link ∧
      (s.setZone z v).pending = s.pending ∧
      (∀ y : ZoneId, (s.setZone z v).queue y = s.queue y) ∧
      (∀ y : GroupId, (s.setZone z v).group y = s.group y) :=
  ⟨rfl, rfl, rfl, rfl, rfl, rfl, rfl, rfl, rfl, rfl, rfl, fun _ => rfl, fun _ => rfl⟩

@[simp] theorem setZone_zones (z : ZoneId) (v : Zone) :
    (s.setZone z v).zones = s.zones.set z.val v z.isLt := rfl

theorem setZone_zone (z y : ZoneId) (v : Zone) :
    (s.setZone z v).zone y = if y = z then v else s.zone y := by
  simp only [State.zone, State.setZone, Fin.getElem_fin, Vector.getElem_set]
  grind

@[simp] theorem setZone_zone_self (z : ZoneId) (v : Zone) : (s.setZone z v).zone z = v := by
  simp [setZone_zone]

@[simp] theorem setQueue_keeps (z : ZoneId) (q : List Order) :
    (s.setQueue z q).now = s.now ∧
      (s.setQueue z q).mtu = s.mtu ∧
      (s.setQueue z q).zones = s.zones ∧
      (s.setQueue z q).planner = s.planner ∧
      (s.setQueue z q).switch = s.switch ∧
      (s.setQueue z q).sup = s.sup ∧
      (s.setQueue z q).gcc = s.gcc ∧
      (s.setQueue z q).store = s.store ∧
      (s.setQueue z q).reports = s.reports ∧
      (s.setQueue z q).link = s.link ∧
      (s.setQueue z q).pending = s.pending ∧
      (∀ y : ZoneId, (s.setQueue z q).zone y = s.zone y) ∧
      (∀ y : GroupId, (s.setQueue z q).group y = s.group y) :=
  ⟨rfl, rfl, rfl, rfl, rfl, rfl, rfl, rfl, rfl, rfl, rfl, fun _ => rfl, fun _ => rfl⟩

@[simp] theorem setQueue_counter (z : ZoneId) (q : List Order) :
    (s.setQueue z q).orders.counter = s.orders.counter := rfl

@[simp] theorem setQueue_queues (z : ZoneId) (q : List Order) :
    (s.setQueue z q).orders.queues = s.orders.queues.set z.val q z.isLt := rfl

theorem setQueue_queue (z y : ZoneId) (q : List Order) :
    (s.setQueue z q).queue y = if y = z then q else s.queue y := by
  simp only [State.queue, State.setQueue, Fin.getElem_fin, Vector.getElem_set]
  grind

@[simp] theorem setQueue_queue_self (z : ZoneId) (q : List Order) : (s.setQueue z q).queue z = q := by
  simp [setQueue_queue]

@[simp] theorem setGroup_keeps (g : GroupId) (v : Group) :
    (s.setGroup g v).now = s.now ∧
      (s.setGroup g v).mtu = s.mtu ∧
      (s.setGroup g v).zones = s.zones ∧
      (s.setGroup g v).orders = s.orders ∧
      (s.setGroup g v).planner = s.planner ∧
      (s.setGroup g v).switch = s.switch ∧
      (s.setGroup g v).sup = s.sup ∧
      (s.setGroup g v).store = s.store ∧
      (s.setGroup g v).reports = s.reports ∧
      (s.setGroup g v).link = s.link ∧
      (s.setGroup g v).pending = s.pending ∧
      (∀ y : ZoneId, (s.setGroup g v).zone y = s.zone y) ∧
      (∀ y : ZoneId, (s.setGroup g v).queue y = s.queue y) :=
  ⟨rfl, rfl, rfl, rfl, rfl, rfl, rfl, rfl, rfl, rfl, rfl, fun _ => rfl, fun _ => rfl⟩

theorem setGroup_group (g y : GroupId) (v : Group) :
    (s.setGroup g v).group y = if y = g then v else s.group y := by
  simp only [State.group, State.setGroup, Fin.getElem_fin, Vector.getElem_set]
  grind

@[simp] theorem setGroup_group_self (g : GroupId) (v : Group) : (s.setGroup g v).group g = v := by
  simp [setGroup_group]

@[simp] theorem setGroup_settings (g : GroupId) (v : Group) :
    (s.setGroup g v).gcc.closeTimeout = s.gcc.closeTimeout ∧ (s.setGroup g v).gcc.openTimeout = s.gcc.openTimeout ∧
      (s.setGroup g v).gcc.verifyWindow = s.gcc.verifyWindow ∧
      (s.setGroup g v).gcc.masterTrip = s.gcc.masterTrip ∧ (s.setGroup g v).gcc.stop = s.gcc.stop ∧
      (s.setGroup g v).gcc.rawStop = s.gcc.rawStop ∧ (s.setGroup g v).gcc.rawStopSince = s.gcc.rawStopSince :=
  ⟨rfl, rfl, rfl, rfl, rfl, rfl, rfl⟩

@[simp] theorem mapGroups_keeps (f : GroupId → Group → Group) :
    (s.mapGroups f).now = s.now ∧
      (s.mapGroups f).mtu = s.mtu ∧
      (s.mapGroups f).zones = s.zones ∧
      (s.mapGroups f).orders = s.orders ∧
      (s.mapGroups f).planner = s.planner ∧
      (s.mapGroups f).switch = s.switch ∧
      (s.mapGroups f).sup = s.sup ∧
      (s.mapGroups f).store = s.store ∧
      (s.mapGroups f).reports = s.reports ∧
      (s.mapGroups f).link = s.link ∧
      (s.mapGroups f).pending = s.pending ∧
      (∀ y : ZoneId, (s.mapGroups f).zone y = s.zone y) ∧
      (∀ y : ZoneId, (s.mapGroups f).queue y = s.queue y) :=
  ⟨rfl, rfl, rfl, rfl, rfl, rfl, rfl, rfl, rfl, rfl, rfl, fun _ => rfl, fun _ => rfl⟩

@[simp] theorem mapGroups_group (f : GroupId → Group → Group) (g : GroupId) :
    (s.mapGroups f).group g = f g (s.group g) := by
  simp [State.mapGroups, State.group]

@[simp] theorem mapGroups_settings (f : GroupId → Group → Group) :
    (s.mapGroups f).gcc.closeTimeout = s.gcc.closeTimeout ∧ (s.mapGroups f).gcc.openTimeout = s.gcc.openTimeout ∧
      (s.mapGroups f).gcc.verifyWindow = s.gcc.verifyWindow ∧
      (s.mapGroups f).gcc.masterTrip = s.gcc.masterTrip ∧ (s.mapGroups f).gcc.stop = s.gcc.stop ∧
      (s.mapGroups f).gcc.rawStop = s.gcc.rawStop ∧ (s.mapGroups f).gcc.rawStopSince = s.gcc.rawStopSince :=
  ⟨rfl, rfl, rfl, rfl, rfl, rfl, rfl⟩

@[simp] theorem submit_keeps (r : Report) :
    (submit r s).now = s.now ∧
      (submit r s).mtu = s.mtu ∧
      (submit r s).zones = s.zones ∧
      (submit r s).orders = s.orders ∧
      (submit r s).planner = s.planner ∧
      (submit r s).switch = s.switch ∧
      (submit r s).sup = s.sup ∧
      (submit r s).gcc = s.gcc ∧
      (submit r s).store = s.store ∧
      (submit r s).link = s.link ∧
      (submit r s).pending = s.pending ∧
      (∀ y : ZoneId, (submit r s).zone y = s.zone y) ∧
      (∀ y : ZoneId, (submit r s).queue y = s.queue y) ∧
      (∀ y : GroupId, (submit r s).group y = s.group y) :=
  ⟨rfl, rfl, rfl, rfl, rfl, rfl, rfl, rfl, rfl, rfl, rfl, fun _ => rfl, fun _ => rfl, fun _ => rfl⟩

@[simp] theorem submit_reports (r : Report) : (submit r s).reports = s.reports.offer r := rfl

@[simp] theorem count_keeps (f : LinkCounters → LinkCounters) :
    (s.count f).now = s.now ∧
      (s.count f).mtu = s.mtu ∧
      (s.count f).zones = s.zones ∧
      (s.count f).orders = s.orders ∧
      (s.count f).planner = s.planner ∧
      (s.count f).switch = s.switch ∧
      (s.count f).sup = s.sup ∧
      (s.count f).gcc = s.gcc ∧
      (s.count f).store = s.store ∧
      (s.count f).reports = s.reports ∧
      (s.count f).pending = s.pending ∧
      (∀ y : ZoneId, (s.count f).zone y = s.zone y) ∧
      (∀ y : ZoneId, (s.count f).queue y = s.queue y) ∧
      (∀ y : GroupId, (s.count f).group y = s.group y) :=
  ⟨rfl, rfl, rfl, rfl, rfl, rfl, rfl, rfl, rfl, rfl, rfl, fun _ => rfl, fun _ => rfl, fun _ => rfl⟩

@[simp] theorem count_link (f : LinkCounters → LinkCounters) :
    (s.count f).link = { s.link with counters := f s.link.counters } := rfl

@[simp] theorem setRx_keeps (r : Receiver) :
    (s.setRx r).now = s.now ∧
      (s.setRx r).mtu = s.mtu ∧
      (s.setRx r).zones = s.zones ∧
      (s.setRx r).orders = s.orders ∧
      (s.setRx r).planner = s.planner ∧
      (s.setRx r).switch = s.switch ∧
      (s.setRx r).sup = s.sup ∧
      (s.setRx r).gcc = s.gcc ∧
      (s.setRx r).store = s.store ∧
      (s.setRx r).reports = s.reports ∧
      (s.setRx r).pending = s.pending ∧
      (∀ y : ZoneId, (s.setRx r).zone y = s.zone y) ∧
      (∀ y : ZoneId, (s.setRx r).queue y = s.queue y) ∧
      (∀ y : GroupId, (s.setRx r).group y = s.group y) :=
  ⟨rfl, rfl, rfl, rfl, rfl, rfl, rfl, rfl, rfl, rfl, rfl, fun _ => rfl, fun _ => rfl, fun _ => rfl⟩

@[simp] theorem setRx_link (r : Receiver) : (s.setRx r).link = { s.link with rx := r } := rfl

@[simp] theorem startRetransmit_keeps :
    (startRetransmit s).now = s.now ∧
      (startRetransmit s).mtu = s.mtu ∧
      (startRetransmit s).zones = s.zones ∧
      (startRetransmit s).orders = s.orders ∧
      (startRetransmit s).planner = s.planner ∧
      (startRetransmit s).switch = s.switch ∧
      (startRetransmit s).sup = s.sup ∧
      (startRetransmit s).gcc = s.gcc ∧
      (startRetransmit s).store = s.store ∧
      (startRetransmit s).reports = s.reports ∧
      (startRetransmit s).pending = s.pending ∧
      (∀ y : ZoneId, (startRetransmit s).zone y = s.zone y) ∧
      (∀ y : ZoneId, (startRetransmit s).queue y = s.queue y) ∧
      (∀ y : GroupId, (startRetransmit s).group y = s.group y) :=
  ⟨rfl, rfl, rfl, rfl, rfl, rfl, rfl, rfl, rfl, rfl, rfl, fun _ => rfl, fun _ => rfl, fun _ => rfl⟩

@[simp] theorem startRetransmit_link : (startRetransmit s).link =
    { s.link with retransmitAt := some (s.afterMs s.link.interval) } := rfl

@[simp] theorem stopRetransmit_keeps :
    (stopRetransmit s).now = s.now ∧
      (stopRetransmit s).mtu = s.mtu ∧
      (stopRetransmit s).zones = s.zones ∧
      (stopRetransmit s).orders = s.orders ∧
      (stopRetransmit s).planner = s.planner ∧
      (stopRetransmit s).switch = s.switch ∧
      (stopRetransmit s).sup = s.sup ∧
      (stopRetransmit s).gcc = s.gcc ∧
      (stopRetransmit s).store = s.store ∧
      (stopRetransmit s).reports = s.reports ∧
      (stopRetransmit s).pending = s.pending ∧
      (∀ y : ZoneId, (stopRetransmit s).zone y = s.zone y) ∧
      (∀ y : ZoneId, (stopRetransmit s).queue y = s.queue y) ∧
      (∀ y : GroupId, (stopRetransmit s).group y = s.group y) :=
  ⟨rfl, rfl, rfl, rfl, rfl, rfl, rfl, rfl, rfl, rfl, rfl, fun _ => rfl, fun _ => rfl, fun _ => rfl⟩

@[simp] theorem stopRetransmit_link : (stopRetransmit s).link =
    { s.link with retransmitAt := none } := rfl

@[simp] theorem storeReply_keeps (num : BitVec 4) (type : Byte) (c : ResultCode) (fs : List Byte) :
    (storeReply num type c fs s).now = s.now ∧
      (storeReply num type c fs s).mtu = s.mtu ∧
      (storeReply num type c fs s).zones = s.zones ∧
      (storeReply num type c fs s).orders = s.orders ∧
      (storeReply num type c fs s).planner = s.planner ∧
      (storeReply num type c fs s).switch = s.switch ∧
      (storeReply num type c fs s).sup = s.sup ∧
      (storeReply num type c fs s).gcc = s.gcc ∧
      (storeReply num type c fs s).store = s.store ∧
      (storeReply num type c fs s).reports = s.reports ∧
      (storeReply num type c fs s).pending = s.pending ∧
      (∀ y : ZoneId, (storeReply num type c fs s).zone y = s.zone y) ∧
      (∀ y : ZoneId, (storeReply num type c fs s).queue y = s.queue y) ∧
      (∀ y : GroupId, (storeReply num type c fs s).group y = s.group y) :=
  ⟨rfl, rfl, rfl, rfl, rfl, rfl, rfl, rfl, rfl, rfl, rfl, fun _ => rfl, fun _ => rfl, fun _ => rfl⟩

@[simp] theorem beginReply_keeps (r : Reply) :
    (beginReply r s).now = s.now ∧
      (beginReply r s).mtu = s.mtu ∧
      (beginReply r s).zones = s.zones ∧
      (beginReply r s).orders = s.orders ∧
      (beginReply r s).planner = s.planner ∧
      (beginReply r s).switch = s.switch ∧
      (beginReply r s).sup = s.sup ∧
      (beginReply r s).gcc = s.gcc ∧
      (beginReply r s).store = s.store ∧
      (beginReply r s).reports = s.reports ∧
      (beginReply r s).pending = s.pending ∧
      (∀ y : ZoneId, (beginReply r s).zone y = s.zone y) ∧
      (∀ y : ZoneId, (beginReply r s).queue y = s.queue y) ∧
      (∀ y : GroupId, (beginReply r s).group y = s.group y) :=
  ⟨rfl, rfl, rfl, rfl, rfl, rfl, rfl, rfl, rfl, rfl, rfl, fun _ => rfl, fun _ => rfl, fun _ => rfl⟩

@[simp] theorem beginReport_keeps (e : QueueEntry) (q : ReportQueue) :
    (beginReport e q s).now = s.now ∧
      (beginReport e q s).mtu = s.mtu ∧
      (beginReport e q s).zones = s.zones ∧
      (beginReport e q s).orders = s.orders ∧
      (beginReport e q s).planner = s.planner ∧
      (beginReport e q s).switch = s.switch ∧
      (beginReport e q s).sup = s.sup ∧
      (beginReport e q s).gcc = s.gcc ∧
      (beginReport e q s).store = s.store ∧
      (beginReport e q s).pending = s.pending ∧
      (∀ y : ZoneId, (beginReport e q s).zone y = s.zone y) ∧
      (∀ y : ZoneId, (beginReport e q s).queue y = s.queue y) ∧
      (∀ y : GroupId, (beginReport e q s).group y = s.group y) :=
  ⟨rfl, rfl, rfl, rfl, rfl, rfl, rfl, rfl, rfl, rfl, fun _ => rfl, fun _ => rfl, fun _ => rfl⟩

@[simp] theorem zeroScores_keeps (z : ZoneId) :
    (zeroScores z s).now = s.now ∧
      (zeroScores z s).mtu = s.mtu ∧
      (zeroScores z s).zones = s.zones ∧
      (zeroScores z s).orders = s.orders ∧
      (zeroScores z s).planner = s.planner ∧
      (zeroScores z s).switch = s.switch ∧
      (zeroScores z s).gcc = s.gcc ∧
      (zeroScores z s).store = s.store ∧
      (zeroScores z s).reports = s.reports ∧
      (zeroScores z s).link = s.link ∧
      (zeroScores z s).pending = s.pending ∧
      (∀ y : ZoneId, (zeroScores z s).zone y = s.zone y) ∧
      (∀ y : ZoneId, (zeroScores z s).queue y = s.queue y) ∧
      (∀ y : GroupId, (zeroScores z s).group y = s.group y) :=
  ⟨rfl, rfl, rfl, rfl, rfl, rfl, rfl, rfl, rfl, rfl, rfl, fun _ => rfl, fun _ => rfl, fun _ => rfl⟩

@[simp] theorem zeroOpenScore_keeps (z : ZoneId) :
    (zeroOpenScore z s).now = s.now ∧
      (zeroOpenScore z s).mtu = s.mtu ∧
      (zeroOpenScore z s).zones = s.zones ∧
      (zeroOpenScore z s).orders = s.orders ∧
      (zeroOpenScore z s).planner = s.planner ∧
      (zeroOpenScore z s).switch = s.switch ∧
      (zeroOpenScore z s).gcc = s.gcc ∧
      (zeroOpenScore z s).store = s.store ∧
      (zeroOpenScore z s).reports = s.reports ∧
      (zeroOpenScore z s).link = s.link ∧
      (zeroOpenScore z s).pending = s.pending ∧
      (∀ y : ZoneId, (zeroOpenScore z s).zone y = s.zone y) ∧
      (∀ y : ZoneId, (zeroOpenScore z s).queue y = s.queue y) ∧
      (∀ y : GroupId, (zeroOpenScore z s).group y = s.group y) :=
  ⟨rfl, rfl, rfl, rfl, rfl, rfl, rfl, rfl, rfl, rfl, rfl, fun _ => rfl, fun _ => rfl, fun _ => rfl⟩

@[simp] theorem markOpen_keeps (z : ZoneId) (b : Bool) :
    (markOpen z b s).now = s.now ∧
      (markOpen z b s).mtu = s.mtu ∧
      (markOpen z b s).zones = s.zones ∧
      (markOpen z b s).orders = s.orders ∧
      (markOpen z b s).planner = s.planner ∧
      (markOpen z b s).switch = s.switch ∧
      (markOpen z b s).gcc = s.gcc ∧
      (markOpen z b s).store = s.store ∧
      (markOpen z b s).reports = s.reports ∧
      (markOpen z b s).link = s.link ∧
      (markOpen z b s).pending = s.pending ∧
      (∀ y : ZoneId, (markOpen z b s).zone y = s.zone y) ∧
      (∀ y : ZoneId, (markOpen z b s).queue y = s.queue y) ∧
      (∀ y : GroupId, (markOpen z b s).group y = s.group y) :=
  ⟨rfl, rfl, rfl, rfl, rfl, rfl, rfl, rfl, rfl, rfl, rfl, fun _ => rfl, fun _ => rfl, fun _ => rfl⟩

@[simp] theorem markStuck_keeps (z : ZoneId) (b : Bool) :
    (markStuck z b s).now = s.now ∧
      (markStuck z b s).mtu = s.mtu ∧
      (markStuck z b s).zones = s.zones ∧
      (markStuck z b s).orders = s.orders ∧
      (markStuck z b s).planner = s.planner ∧
      (markStuck z b s).switch = s.switch ∧
      (markStuck z b s).gcc = s.gcc ∧
      (markStuck z b s).store = s.store ∧
      (markStuck z b s).reports = s.reports ∧
      (markStuck z b s).link = s.link ∧
      (markStuck z b s).pending = s.pending ∧
      (∀ y : ZoneId, (markStuck z b s).zone y = s.zone y) ∧
      (∀ y : ZoneId, (markStuck z b s).queue y = s.queue y) ∧
      (∀ y : GroupId, (markStuck z b s).group y = s.group y) :=
  ⟨rfl, rfl, rfl, rfl, rfl, rfl, rfl, rfl, rfl, rfl, rfl, fun _ => rfl, fun _ => rfl, fun _ => rfl⟩

@[simp] theorem takeSample_keeps (cs : ZoneSet) :
    (takeSample cs s).now = s.now ∧
      (takeSample cs s).mtu = s.mtu ∧
      (takeSample cs s).zones = s.zones ∧
      (takeSample cs s).orders = s.orders ∧
      (takeSample cs s).planner = s.planner ∧
      (takeSample cs s).switch = s.switch ∧
      (takeSample cs s).gcc = s.gcc ∧
      (takeSample cs s).store = s.store ∧
      (takeSample cs s).reports = s.reports ∧
      (takeSample cs s).link = s.link ∧
      (takeSample cs s).pending = s.pending ∧
      (∀ y : ZoneId, (takeSample cs s).zone y = s.zone y) ∧
      (∀ y : ZoneId, (takeSample cs s).queue y = s.queue y) ∧
      (∀ y : GroupId, (takeSample cs s).group y = s.group y) :=
  ⟨rfl, rfl, rfl, rfl, rfl, rfl, rfl, rfl, rfl, rfl, rfl, fun _ => rfl, fun _ => rfl, fun _ => rfl⟩

@[simp] theorem clearMarks_keeps :
    (clearMarks s).now = s.now ∧
      (clearMarks s).mtu = s.mtu ∧
      (clearMarks s).zones = s.zones ∧
      (clearMarks s).orders = s.orders ∧
      (clearMarks s).planner = s.planner ∧
      (clearMarks s).switch = s.switch ∧
      (clearMarks s).gcc = s.gcc ∧
      (clearMarks s).store = s.store ∧
      (clearMarks s).reports = s.reports ∧
      (clearMarks s).link = s.link ∧
      (clearMarks s).pending = s.pending ∧
      (∀ y : ZoneId, (clearMarks s).zone y = s.zone y) ∧
      (∀ y : ZoneId, (clearMarks s).queue y = s.queue y) ∧
      (∀ y : GroupId, (clearMarks s).group y = s.group y) :=
  ⟨rfl, rfl, rfl, rfl, rfl, rfl, rfl, rfl, rfl, rfl, rfl, fun _ => rfl, fun _ => rfl, fun _ => rfl⟩

@[simp] theorem restartReadings_keeps :
    (restartReadings s).now = s.now ∧
      (restartReadings s).mtu = s.mtu ∧
      (restartReadings s).zones = s.zones ∧
      (restartReadings s).orders = s.orders ∧
      (restartReadings s).planner = s.planner ∧
      (restartReadings s).switch = s.switch ∧
      (restartReadings s).gcc = s.gcc ∧
      (restartReadings s).store = s.store ∧
      (restartReadings s).reports = s.reports ∧
      (restartReadings s).link = s.link ∧
      (restartReadings s).pending = s.pending ∧
      (∀ y : ZoneId, (restartReadings s).zone y = s.zone y) ∧
      (∀ y : ZoneId, (restartReadings s).queue y = s.queue y) ∧
      (∀ y : GroupId, (restartReadings s).group y = s.group y) :=
  ⟨rfl, rfl, rfl, rfl, rfl, rfl, rfl, rfl, rfl, rfl, rfl, fun _ => rfl, fun _ => rfl, fun _ => rfl⟩

@[simp] theorem dropLines_keeps :
    (dropLines s).now = s.now ∧
      (dropLines s).mtu = s.mtu ∧
      (dropLines s).zones = s.zones ∧
      (dropLines s).orders = s.orders ∧
      (dropLines s).planner = s.planner ∧
      (dropLines s).sup = s.sup ∧
      (dropLines s).gcc = s.gcc ∧
      (dropLines s).store = s.store ∧
      (dropLines s).reports = s.reports ∧
      (dropLines s).link = s.link ∧
      (dropLines s).pending = s.pending ∧
      (∀ y : ZoneId, (dropLines s).zone y = s.zone y) ∧
      (∀ y : ZoneId, (dropLines s).queue y = s.queue y) ∧
      (∀ y : GroupId, (dropLines s).group y = s.group y) :=
  ⟨rfl, rfl, rfl, rfl, rfl, rfl, rfl, rfl, rfl, rfl, rfl, fun _ => rfl, fun _ => rfl, fun _ => rfl⟩

@[simp] theorem discardPlans_keeps :
    (discardPlans s).now = s.now ∧
      (discardPlans s).mtu = s.mtu ∧
      (discardPlans s).zones = s.zones ∧
      (discardPlans s).orders = s.orders ∧
      (discardPlans s).switch = s.switch ∧
      (discardPlans s).sup = s.sup ∧
      (discardPlans s).gcc = s.gcc ∧
      (discardPlans s).store = s.store ∧
      (discardPlans s).reports = s.reports ∧
      (discardPlans s).link = s.link ∧
      (discardPlans s).pending = s.pending ∧
      (∀ y : ZoneId, (discardPlans s).zone y = s.zone y) ∧
      (∀ y : ZoneId, (discardPlans s).queue y = s.queue y) ∧
      (∀ y : GroupId, (discardPlans s).group y = s.group y) :=
  ⟨rfl, rfl, rfl, rfl, rfl, rfl, rfl, rfl, rfl, rfl, rfl, fun _ => rfl, fun _ => rfl, fun _ => rfl⟩

@[simp] theorem driveLines_keeps (f : BitVec 32) (h : Nat) (b : Bool) (m : ZoneSet) :
    (driveLines f h b m s).now = s.now ∧
      (driveLines f h b m s).mtu = s.mtu ∧
      (driveLines f h b m s).zones = s.zones ∧
      (driveLines f h b m s).orders = s.orders ∧
      (driveLines f h b m s).planner = s.planner ∧
      (driveLines f h b m s).sup = s.sup ∧
      (driveLines f h b m s).gcc = s.gcc ∧
      (driveLines f h b m s).store = s.store ∧
      (driveLines f h b m s).reports = s.reports ∧
      (driveLines f h b m s).link = s.link ∧
      (driveLines f h b m s).pending = s.pending ∧
      (∀ y : ZoneId, (driveLines f h b m s).zone y = s.zone y) ∧
      (∀ y : ZoneId, (driveLines f h b m s).queue y = s.queue y) ∧
      (∀ y : GroupId, (driveLines f h b m s).group y = s.group y) :=
  ⟨rfl, rfl, rfl, rfl, rfl, rfl, rfl, rfl, rfl, rfl, rfl, fun _ => rfl, fun _ => rfl, fun _ => rfl⟩

end Sys2Proof.Machine
end

