-- ==== Sys2Proof/Laws/Values.lean ====
section
/-! SUPPORT. The small lemmas of the plain values: sets of zones and groups, zone and group numbers in a
byte, two-byte fields, saturating counts, little-endian bytes, and folds over zones and groups. -/

namespace Sys2Proof.Machine

/-! ### Sets -/

@[simp] theorem inZones_zoneSet (p : ZoneId → Bool) (z : ZoneId) : inZones (zoneSet p) z = p z := by
  simp [inZones, zoneSet]

@[simp] theorem inGroups_groupSet (p : GroupId → Bool) (g : GroupId) :
    inGroups (groupSet p) g = p g := by
  simp [inGroups, groupSet]

@[simp] theorem inZones_addZone (m : ZoneSet) (y z : ZoneId) :
    inZones (addZone m y) z = (z == y || inZones m z) := by
  simp [addZone]

@[simp] theorem inZones_zero (z : ZoneId) : inZones 0 z = false := by simp [inZones]

theorem zoneSet_ext {m n : ZoneSet} (h : ∀ z, inZones m z = inZones n z) : m = n := by
  apply BitVec.eq_of_getLsbD_eq
  intro i hi
  simpa [inZones] using h ⟨i, hi⟩

theorem groupSet_ext {m n : GroupSet} (h : ∀ g, inGroups m g = inGroups n g) : m = n := by
  apply BitVec.eq_of_getLsbD_eq
  intro i hi
  simpa [inGroups] using h ⟨i, hi⟩

@[simp] theorem mem_allZones (z : ZoneId) : z ∈ allZones := by simp [allZones]

@[simp] theorem mem_allGroups (g : GroupId) : g ∈ allGroups := by simp [allGroups]

theorem allZones_nodup : allZones.Nodup := List.nodup_finRange 24

theorem allGroups_nodup : allGroups.Nodup := List.nodup_finRange 4

@[simp] theorem mem_zonesOf (s : State) (g : GroupId) (z : ZoneId) :
    z ∈ s.zonesOf g ↔ (s.zone z).cfg.group = g := by
  simp [State.zonesOf]

/-- A set of groups is empty exactly when it has no member. -/
theorem groupSet_eq_zero (p : GroupId → Bool) : groupSet p = 0 ↔ ∀ g, p g = false := by
  have hz : ∀ g, inGroups 0 g = false := fun g => BitVec.getLsbD_zero
  constructor
  · intro h g
    rw [← inGroups_groupSet p g, h, hz]
  · intro h
    exact groupSet_ext fun g => by rw [inGroups_groupSet, h g, hz]

/-! ### Zone and group numbers -/

@[simp] theorem zoneOf_zoneByte (z : ZoneId) : zoneOf (zoneByte z) = z := by
  revert z; decide

@[simp] theorem zoneByte_toNat (z : ZoneId) : (zoneByte z).toNat = z.val := by
  revert z; decide

@[simp] theorem zoneInRange_zoneByte (z : ZoneId) : zoneInRange (zoneByte z) = true := by
  revert z; decide

@[simp] theorem groupNumber_groupByte (g : GroupId) : groupNumber (groupByte g) = g := by
  revert g; decide

@[simp] theorem groupByte_toNat (g : GroupId) : (groupByte g).toNat = g.val := by
  revert g; decide

@[simp] theorem groupInRange_groupByte (g : GroupId) : groupInRange (groupByte g) = true := by
  revert g; decide

/-! ### Fields and counts -/

@[simp] theorem halfOf_bytes (v : Half) :
    halfOf (v.extractLsb' 0 8) (v.extractLsb' 8 8) = v := by
  apply BitVec.eq_of_getLsbD_eq
  intro i hi
  simp only [halfOf, BitVec.getLsbD_append, BitVec.getLsbD_extractLsb']
  by_cases h : i < 8
  · simp [h]
  · have h2 : i - 8 < 8 := by omega
    have h3 : 8 + (i - 8) = i := by omega
    simp [h, h2, h3]

theorem within_iff (lo hi v : Nat) : within lo hi v = true ↔ lo ≤ v ∧ v ≤ hi := by
  simp [within]

theorem satAdd_le (bound n k : Nat) : satAdd bound n k ≤ bound := Nat.min_le_left _ _

@[simp] theorem bump_eq (n : Nat) : bump n = min 65535 (n + 1) := rfl

@[simp] theorem leBytes_length (n v : Nat) : (leBytes n v).length = n := by
  induction n generalizing v with
  | zero => rfl
  | succ n ih => simp [leBytes, ih]

theorem half_bytes_eq (v : Half) : Half.bytes v = leBytes 2 v.toNat := by
  have h0 : v.extractLsb' 0 8 = BitVec.ofNat 8 v.toNat := by
    apply BitVec.eq_of_toNat_eq; simp [BitVec.extractLsb'_toNat]
  have h1 : v.extractLsb' 8 8 = BitVec.ofNat 8 (v.toNat / 256) := by
    apply BitVec.eq_of_toNat_eq; simp [BitVec.extractLsb'_toNat, Nat.shiftRight_eq_div_pow]
  simp [Half.bytes, leBytes, h0, h1]

/-! ### Folds -/

/-- What each zone's part keeps, doing it for a list of zones keeps. -/
theorem forZones_keeps {α : Type} (π : State → α) {f : ZoneId → State → State}
    (h : ∀ z s, π (f z s) = π s) (zs : List ZoneId) (s : State) : π (forZones zs f s) = π s := by
  induction zs generalizing s with
  | nil => rfl
  | cons z zs ih => exact (ih (f z s)).trans (h z s)

/-- What each group's part keeps, doing it for a list of groups keeps. -/
theorem forGroups_keeps {α : Type} (π : State → α) {f : GroupId → State → State}
    (h : ∀ g s, π (f g s) = π s) (gs : List GroupId) (s : State) : π (forGroups gs f s) = π s := by
  induction gs generalizing s with
  | nil => rfl
  | cons g gs ih => exact (ih (f g s)).trans (h g s)

/-- An invariant of each zone's part holds after all of them. -/
theorem forZones_induction (P : State → Prop) {f : ZoneId → State → State}
    (h : ∀ z s, P s → P (f z s)) (zs : List ZoneId) (s : State) (hs : P s) :
    P (forZones zs f s) := by
  induction zs generalizing s with
  | nil => exact hs
  | cons z zs ih => exact ih (f z s) (h z s hs)

/-- An invariant of each group's part holds after all of them. -/
theorem forGroups_induction (P : State → Prop) {f : GroupId → State → State}
    (h : ∀ g s, P s → P (f g s)) (gs : List GroupId) (s : State) (hs : P s) :
    P (forGroups gs f s) := by
  induction gs generalizing s with
  | nil => exact hs
  | cons g gs ih => exact ih (f g s) (h g s hs)

end Sys2Proof.Machine
end

