-- ==== Sys2Proof/Laws/Frames.lean ====
section
/-! SUPPORT. The frame of each shared operation: which blocks it leaves as they were. Each lemma is one
conjunction tagged @[simp], which simp reads as one rewrite rule per block. -/

namespace Sys2Proof.Machine

/-! ### Order unit -/

@[simp] theorem lastOrderGone_keeps (s : State) (z : ZoneId) :
    (s.lastOrderGone z).now = s.now ∧ (s.lastOrderGone z).mtu = s.mtu ∧
    (s.lastOrderGone z).orders = s.orders ∧ (s.lastOrderGone z).planner = s.planner ∧
    (s.lastOrderGone z).switch = s.switch ∧ (s.lastOrderGone z).sup = s.sup ∧
    (s.lastOrderGone z).gcc = s.gcc ∧ (s.lastOrderGone z).store = s.store ∧
    (s.lastOrderGone z).reports = s.reports ∧ (s.lastOrderGone z).link = s.link ∧
    (s.lastOrderGone z).pending = s.pending :=
  by unfold State.lastOrderGone; split <;> simp

@[simp] theorem shrinkQueue_keeps (s : State) (z : ZoneId) (q : List Order) :
    (s.shrinkQueue z q).now = s.now ∧ (s.shrinkQueue z q).mtu = s.mtu ∧
    (s.shrinkQueue z q).planner = s.planner ∧ (s.shrinkQueue z q).switch = s.switch ∧
    (s.shrinkQueue z q).sup = s.sup ∧ (s.shrinkQueue z q).gcc = s.gcc ∧
    (s.shrinkQueue z q).store = s.store ∧ (s.shrinkQueue z q).reports = s.reports ∧
    (s.shrinkQueue z q).link = s.link ∧ (s.shrinkQueue z q).pending = s.pending :=
  by unfold State.shrinkQueue; split <;> simp

@[simp] theorem haltAllAtOnce_keeps (z : ZoneId) (r : HaltReason) (os : List Order) (s : State) :
    (haltAllAtOnce z r os s).now = s.now ∧ (haltAllAtOnce z r os s).mtu = s.mtu ∧
    (haltAllAtOnce z r os s).zones = s.zones ∧ (haltAllAtOnce z r os s).orders = s.orders ∧
    (haltAllAtOnce z r os s).planner = s.planner ∧ (haltAllAtOnce z r os s).switch = s.switch ∧
    (haltAllAtOnce z r os s).sup = s.sup ∧ (haltAllAtOnce z r os s).gcc = s.gcc ∧
    (haltAllAtOnce z r os s).store = s.store ∧ (haltAllAtOnce z r os s).link = s.link ∧
    (haltAllAtOnce z r os s).pending = s.pending :=
  by induction os generalizing s <;> simp_all [haltAllAtOnce, haltAtOnce]

@[simp] theorem haltZoneOrders_keeps (z : ZoneId) (r : HaltReason) (s : State) :
    ((haltZoneOrders z r s).1).now = s.now ∧ ((haltZoneOrders z r s).1).mtu = s.mtu ∧
    ((haltZoneOrders z r s).1).planner = s.planner ∧
    ((haltZoneOrders z r s).1).switch = s.switch ∧ ((haltZoneOrders z r s).1).sup = s.sup ∧
    ((haltZoneOrders z r s).1).gcc = s.gcc ∧ ((haltZoneOrders z r s).1).store = s.store ∧
    ((haltZoneOrders z r s).1).link = s.link ∧ ((haltZoneOrders z r s).1).pending = s.pending :=
  by unfold haltZoneOrders; split <;> [skip; split] <;> simp

@[simp] theorem lossReports_keeps (z : ZoneId) (os : List Order) (s : State) :
    (lossReports z os s).now = s.now ∧ (lossReports z os s).mtu = s.mtu ∧
    (lossReports z os s).zones = s.zones ∧ (lossReports z os s).orders = s.orders ∧
    (lossReports z os s).planner = s.planner ∧ (lossReports z os s).switch = s.switch ∧
    (lossReports z os s).sup = s.sup ∧ (lossReports z os s).gcc = s.gcc ∧
    (lossReports z os s).store = s.store ∧ (lossReports z os s).link = s.link ∧
    (lossReports z os s).pending = s.pending :=
  by induction os generalizing s <;> simp_all [lossReports]

@[simp] theorem loseQueue_keeps (z : ZoneId) (s : State) :
    (loseQueue z s).now = s.now ∧ (loseQueue z s).mtu = s.mtu ∧
    (loseQueue z s).planner = s.planner ∧ (loseQueue z s).switch = s.switch ∧
    (loseQueue z s).sup = s.sup ∧ (loseQueue z s).gcc = s.gcc ∧ (loseQueue z s).store = s.store ∧
    (loseQueue z s).link = s.link ∧ (loseQueue z s).pending = s.pending :=
  by simp [loseQueue]

@[simp] theorem loseAllOrders_keeps (s : State) :
    (loseAllOrders s).now = s.now ∧ (loseAllOrders s).mtu = s.mtu ∧
    (loseAllOrders s).planner = s.planner ∧ (loseAllOrders s).switch = s.switch ∧
    (loseAllOrders s).sup = s.sup ∧ (loseAllOrders s).gcc = s.gcc ∧
    (loseAllOrders s).store = s.store ∧ (loseAllOrders s).link = s.link ∧
    (loseAllOrders s).pending = s.pending :=
  ⟨forZones_keeps State.now (fun _ _ => by simp) _ _,
    forZones_keeps State.mtu (fun _ _ => by simp) _ _,
    forZones_keeps State.planner (fun _ _ => by simp) _ _,
    forZones_keeps State.switch (fun _ _ => by simp) _ _,
    forZones_keeps State.sup (fun _ _ => by simp) _ _,
    forZones_keeps State.gcc (fun _ _ => by simp) _ _,
    forZones_keeps State.store (fun _ _ => by simp) _ _,
    forZones_keeps State.link (fun _ _ => by simp) _ _,
    forZones_keeps State.pending (fun _ _ => by simp) _ _⟩

@[simp] theorem fireHead_keeps (z : ZoneId) (n : BitVec 32) (s : State) :
    (fireHead z n s).now = s.now ∧ (fireHead z n s).mtu = s.mtu ∧
    (fireHead z n s).planner = s.planner ∧ (fireHead z n s).switch = s.switch ∧
    (fireHead z n s).sup = s.sup ∧ (fireHead z n s).gcc = s.gcc ∧
    (fireHead z n s).store = s.store ∧ (fireHead z n s).link = s.link ∧
    (fireHead z n s).pending = s.pending :=
  by unfold fireHead; split <;> [skip; (dsimp only; split <;> split)] <;> simp

@[simp] theorem confirmReports_keeps (z : ZoneId) (os : List Order) (s : State) :
    (confirmReports z os s).now = s.now ∧ (confirmReports z os s).mtu = s.mtu ∧
    (confirmReports z os s).zones = s.zones ∧ (confirmReports z os s).orders = s.orders ∧
    (confirmReports z os s).planner = s.planner ∧ (confirmReports z os s).switch = s.switch ∧
    (confirmReports z os s).sup = s.sup ∧ (confirmReports z os s).gcc = s.gcc ∧
    (confirmReports z os s).store = s.store ∧ (confirmReports z os s).link = s.link ∧
    (confirmReports z os s).pending = s.pending :=
  by
  induction os generalizing s with
  | nil => simp [confirmReports]
  | cons o os ih => unfold confirmReports; split <;> simp [ih]

@[simp] theorem confirmHalts_keeps (z : ZoneId) (s : State) :
    (confirmHalts z s).now = s.now ∧ (confirmHalts z s).mtu = s.mtu ∧
    (confirmHalts z s).planner = s.planner ∧ (confirmHalts z s).switch = s.switch ∧
    (confirmHalts z s).sup = s.sup ∧ (confirmHalts z s).gcc = s.gcc ∧
    (confirmHalts z s).store = s.store ∧ (confirmHalts z s).link = s.link ∧
    (confirmHalts z s).pending = s.pending :=
  by simp [confirmHalts]

/-! ### Zone table -/

@[simp] theorem restZone_keeps (s : State) (z : ZoneId) (st : ZoneState) :
    (s.restZone z st).now = s.now ∧ (s.restZone z st).mtu = s.mtu ∧
    (s.restZone z st).orders = s.orders ∧ (s.restZone z st).planner = s.planner ∧
    (s.restZone z st).switch = s.switch ∧ (s.restZone z st).sup = s.sup ∧
    (s.restZone z st).gcc = s.gcc ∧ (s.restZone z st).store = s.store ∧
    (s.restZone z st).reports = s.reports ∧ (s.restZone z st).link = s.link ∧
    (s.restZone z st).pending = s.pending :=
  by simp [State.restZone]

@[simp] theorem leaveService_keeps (z : ZoneId) (st : ZoneState) (r : HaltReason) (s : State) :
    ((leaveService z st r s).1).now = s.now ∧ ((leaveService z st r s).1).mtu = s.mtu ∧
    ((leaveService z st r s).1).planner = s.planner ∧
    ((leaveService z st r s).1).switch = s.switch ∧ ((leaveService z st r s).1).sup = s.sup ∧
    ((leaveService z st r s).1).gcc = s.gcc ∧ ((leaveService z st r s).1).store = s.store ∧
    ((leaveService z st r s).1).link = s.link ∧ ((leaveService z st r s).1).pending = s.pending :=
  by simp [leaveService]

@[simp] theorem withdrawZone_keeps (r : HaltReason) (z : ZoneId) (s : State) :
    (withdrawZone r z s).now = s.now ∧ (withdrawZone r z s).mtu = s.mtu ∧
    (withdrawZone r z s).planner = s.planner ∧ (withdrawZone r z s).switch = s.switch ∧
    (withdrawZone r z s).sup = s.sup ∧ (withdrawZone r z s).gcc = s.gcc ∧
    (withdrawZone r z s).store = s.store ∧ (withdrawZone r z s).link = s.link ∧
    (withdrawZone r z s).pending = s.pending :=
  by unfold withdrawZone; split <;> simp

@[simp] theorem withdrawGroup_keeps (g : GroupId) (r : HaltReason) (s : State) :
    (withdrawGroup g r s).now = s.now ∧ (withdrawGroup g r s).mtu = s.mtu ∧
    (withdrawGroup g r s).planner = s.planner ∧ (withdrawGroup g r s).switch = s.switch ∧
    (withdrawGroup g r s).sup = s.sup ∧ (withdrawGroup g r s).gcc = s.gcc ∧
    (withdrawGroup g r s).store = s.store ∧ (withdrawGroup g r s).link = s.link ∧
    (withdrawGroup g r s).pending = s.pending :=
  ⟨forZones_keeps State.now (fun _ _ => by simp) _ _,
    forZones_keeps State.mtu (fun _ _ => by simp) _ _,
    forZones_keeps State.planner (fun _ _ => by simp) _ _,
    forZones_keeps State.switch (fun _ _ => by simp) _ _,
    forZones_keeps State.sup (fun _ _ => by simp) _ _,
    forZones_keeps State.gcc (fun _ _ => by simp) _ _,
    forZones_keeps State.store (fun _ _ => by simp) _ _,
    forZones_keeps State.link (fun _ _ => by simp) _ _,
    forZones_keeps State.pending (fun _ _ => by simp) _ _⟩

@[simp] theorem idleAtLoss_keeps (z : ZoneId) (s : State) :
    (idleAtLoss z s).now = s.now ∧ (idleAtLoss z s).mtu = s.mtu ∧
    (idleAtLoss z s).orders = s.orders ∧ (idleAtLoss z s).planner = s.planner ∧
    (idleAtLoss z s).switch = s.switch ∧ (idleAtLoss z s).sup = s.sup ∧
    (idleAtLoss z s).gcc = s.gcc ∧ (idleAtLoss z s).store = s.store ∧
    (idleAtLoss z s).reports = s.reports ∧ (idleAtLoss z s).link = s.link ∧
    (idleAtLoss z s).pending = s.pending :=
  by unfold idleAtLoss; split <;> simp

@[simp] theorem zonesAtLoss_keeps (s : State) :
    (zonesAtLoss s).now = s.now ∧ (zonesAtLoss s).mtu = s.mtu ∧
    (zonesAtLoss s).orders = s.orders ∧ (zonesAtLoss s).planner = s.planner ∧
    (zonesAtLoss s).switch = s.switch ∧ (zonesAtLoss s).sup = s.sup ∧
    (zonesAtLoss s).gcc = s.gcc ∧ (zonesAtLoss s).store = s.store ∧
    (zonesAtLoss s).reports = s.reports ∧ (zonesAtLoss s).link = s.link ∧
    (zonesAtLoss s).pending = s.pending :=
  ⟨forZones_keeps State.now (fun _ _ => by simp) _ _,
    forZones_keeps State.mtu (fun _ _ => by simp) _ _,
    forZones_keeps State.orders (fun _ _ => by simp) _ _,
    forZones_keeps State.planner (fun _ _ => by simp) _ _,
    forZones_keeps State.switch (fun _ _ => by simp) _ _,
    forZones_keeps State.sup (fun _ _ => by simp) _ _,
    forZones_keeps State.gcc (fun _ _ => by simp) _ _,
    forZones_keeps State.store (fun _ _ => by simp) _ _,
    forZones_keeps State.reports (fun _ _ => by simp) _ _,
    forZones_keeps State.link (fun _ _ => by simp) _ _,
    forZones_keeps State.pending (fun _ _ => by simp) _ _⟩

@[simp] theorem reduceDemand_keeps (l : Nat) (z : ZoneId) (s : State) :
    (reduceDemand l z s).now = s.now ∧ (reduceDemand l z s).mtu = s.mtu ∧
    (reduceDemand l z s).orders = s.orders ∧ (reduceDemand l z s).planner = s.planner ∧
    (reduceDemand l z s).switch = s.switch ∧ (reduceDemand l z s).sup = s.sup ∧
    (reduceDemand l z s).gcc = s.gcc ∧ (reduceDemand l z s).store = s.store ∧
    (reduceDemand l z s).reports = s.reports ∧ (reduceDemand l z s).link = s.link ∧
    (reduceDemand l z s).pending = s.pending :=
  by unfold reduceDemand; split <;> simp

@[simp] theorem lapseLease_keeps (l : Nat) (z : ZoneId) (s : State) :
    (lapseLease l z s).now = s.now ∧ (lapseLease l z s).mtu = s.mtu ∧
    (lapseLease l z s).orders = s.orders ∧ (lapseLease l z s).planner = s.planner ∧
    (lapseLease l z s).switch = s.switch ∧ (lapseLease l z s).sup = s.sup ∧
    (lapseLease l z s).gcc = s.gcc ∧ (lapseLease l z s).store = s.store ∧
    (lapseLease l z s).link = s.link ∧ (lapseLease l z s).pending = s.pending :=
  by simp [lapseLease]

@[simp] theorem runDownLease_keeps (l : Nat) (z : ZoneId) (s : State) :
    (runDownLease l z s).now = s.now ∧ (runDownLease l z s).mtu = s.mtu ∧
    (runDownLease l z s).orders = s.orders ∧ (runDownLease l z s).planner = s.planner ∧
    (runDownLease l z s).switch = s.switch ∧ (runDownLease l z s).sup = s.sup ∧
    (runDownLease l z s).gcc = s.gcc ∧ (runDownLease l z s).store = s.store ∧
    (runDownLease l z s).link = s.link ∧ (runDownLease l z s).pending = s.pending :=
  by unfold runDownLease; dsimp only; split <;> [split; skip] <;> simp

@[simp] theorem reduceDemands_keeps (l : Nat) (s : State) :
    (forZones allZones (reduceDemand l) s).now = s.now ∧
    (forZones allZones (reduceDemand l) s).mtu = s.mtu ∧
    (forZones allZones (reduceDemand l) s).orders = s.orders ∧
    (forZones allZones (reduceDemand l) s).planner = s.planner ∧
    (forZones allZones (reduceDemand l) s).switch = s.switch ∧
    (forZones allZones (reduceDemand l) s).sup = s.sup ∧
    (forZones allZones (reduceDemand l) s).gcc = s.gcc ∧
    (forZones allZones (reduceDemand l) s).store = s.store ∧
    (forZones allZones (reduceDemand l) s).reports = s.reports ∧
    (forZones allZones (reduceDemand l) s).link = s.link ∧
    (forZones allZones (reduceDemand l) s).pending = s.pending :=
  ⟨forZones_keeps State.now (fun _ _ => by simp) _ _,
    forZones_keeps State.mtu (fun _ _ => by simp) _ _,
    forZones_keeps State.orders (fun _ _ => by simp) _ _,
    forZones_keeps State.planner (fun _ _ => by simp) _ _,
    forZones_keeps State.switch (fun _ _ => by simp) _ _,
    forZones_keeps State.sup (fun _ _ => by simp) _ _,
    forZones_keeps State.gcc (fun _ _ => by simp) _ _,
    forZones_keeps State.store (fun _ _ => by simp) _ _,
    forZones_keeps State.reports (fun _ _ => by simp) _ _,
    forZones_keeps State.link (fun _ _ => by simp) _ _,
    forZones_keeps State.pending (fun _ _ => by simp) _ _⟩

@[simp] theorem runDownLeases_keeps (l : Nat) (s : State) :
    (forZones allZones (runDownLease l) s).now = s.now ∧
    (forZones allZones (runDownLease l) s).mtu = s.mtu ∧
    (forZones allZones (runDownLease l) s).orders = s.orders ∧
    (forZones allZones (runDownLease l) s).planner = s.planner ∧
    (forZones allZones (runDownLease l) s).switch = s.switch ∧
    (forZones allZones (runDownLease l) s).sup = s.sup ∧
    (forZones allZones (runDownLease l) s).gcc = s.gcc ∧
    (forZones allZones (runDownLease l) s).store = s.store ∧
    (forZones allZones (runDownLease l) s).link = s.link ∧
    (forZones allZones (runDownLease l) s).pending = s.pending :=
  ⟨forZones_keeps State.now (fun _ _ => by simp) _ _,
    forZones_keeps State.mtu (fun _ _ => by simp) _ _,
    forZones_keeps State.orders (fun _ _ => by simp) _ _,
    forZones_keeps State.planner (fun _ _ => by simp) _ _,
    forZones_keeps State.switch (fun _ _ => by simp) _ _,
    forZones_keeps State.sup (fun _ _ => by simp) _ _,
    forZones_keeps State.gcc (fun _ _ => by simp) _ _,
    forZones_keeps State.store (fun _ _ => by simp) _ _,
    forZones_keeps State.link (fun _ _ => by simp) _ _,
    forZones_keeps State.pending (fun _ _ => by simp) _ _⟩

@[simp] theorem zonesAtBoundary_keeps (l : Nat) (b : Bool) (s : State) :
    (zonesAtBoundary l b s).now = s.now ∧ (zonesAtBoundary l b s).mtu = s.mtu ∧
    (zonesAtBoundary l b s).orders = s.orders ∧ (zonesAtBoundary l b s).planner = s.planner ∧
    (zonesAtBoundary l b s).switch = s.switch ∧ (zonesAtBoundary l b s).sup = s.sup ∧
    (zonesAtBoundary l b s).gcc = s.gcc ∧ (zonesAtBoundary l b s).store = s.store ∧
    (zonesAtBoundary l b s).link = s.link ∧ (zonesAtBoundary l b s).pending = s.pending :=
  by unfold zonesAtBoundary; cases b <;> simp

/-! ### Group contactor controller and trip record store -/

@[simp] theorem forgetRecord_keeps (n : Half) (s : State) :
    (forgetRecord n s).now = s.now ∧ (forgetRecord n s).mtu = s.mtu ∧
    (forgetRecord n s).zones = s.zones ∧ (forgetRecord n s).orders = s.orders ∧
    (forgetRecord n s).planner = s.planner ∧ (forgetRecord n s).switch = s.switch ∧
    (forgetRecord n s).sup = s.sup ∧ (forgetRecord n s).store = s.store ∧
    (forgetRecord n s).reports = s.reports ∧ (forgetRecord n s).link = s.link ∧
    (forgetRecord n s).pending = s.pending :=
  by simp [forgetRecord]

@[simp] theorem makeRecord_keeps (r : TripRecord) (s : State) :
    ((makeRecord r s).1).now = s.now ∧ ((makeRecord r s).1).mtu = s.mtu ∧
    ((makeRecord r s).1).zones = s.zones ∧ ((makeRecord r s).1).orders = s.orders ∧
    ((makeRecord r s).1).planner = s.planner ∧ ((makeRecord r s).1).switch = s.switch ∧
    ((makeRecord r s).1).sup = s.sup ∧ ((makeRecord r s).1).reports = s.reports ∧
    ((makeRecord r s).1).link = s.link ∧ ((makeRecord r s).1).pending = s.pending :=
  by unfold makeRecord; split <;> simp

@[simp] theorem verifyGroup_keeps (g : GroupId) (s : State) :
    (verifyGroup g s).now = s.now ∧ (verifyGroup g s).mtu = s.mtu ∧
    (verifyGroup g s).zones = s.zones ∧ (verifyGroup g s).orders = s.orders ∧
    (verifyGroup g s).planner = s.planner ∧ (verifyGroup g s).switch = s.switch ∧
    (verifyGroup g s).sup = s.sup ∧ (verifyGroup g s).link = s.link ∧
    (verifyGroup g s).pending = s.pending :=
  by unfold verifyGroup; dsimp only; split <;> simp

@[simp] theorem testGroup_keeps (g : GroupId) (s : State) :
    (testGroup g s).now = s.now ∧ (testGroup g s).mtu = s.mtu ∧ (testGroup g s).zones = s.zones ∧
    (testGroup g s).orders = s.orders ∧ (testGroup g s).planner = s.planner ∧
    (testGroup g s).switch = s.switch ∧ (testGroup g s).sup = s.sup ∧
    (testGroup g s).link = s.link ∧ (testGroup g s).pending = s.pending :=
  by unfold testGroup; split <;> simp

@[simp] theorem tripGroups_keeps (m : GroupSet) (s : State) :
    (tripGroups m s).now = s.now ∧ (tripGroups m s).mtu = s.mtu ∧
    (tripGroups m s).zones = s.zones ∧ (tripGroups m s).orders = s.orders ∧
    (tripGroups m s).planner = s.planner ∧ (tripGroups m s).switch = s.switch ∧
    (tripGroups m s).sup = s.sup ∧ (tripGroups m s).store = s.store ∧
    (tripGroups m s).reports = s.reports ∧ (tripGroups m s).link = s.link ∧
    (tripGroups m s).pending = s.pending :=
  by simp [tripGroups]

@[simp] theorem setRecords_keeps (m : GroupSet) (n : Half) (s : State) :
    (setRecords m n s).now = s.now ∧ (setRecords m n s).mtu = s.mtu ∧
    (setRecords m n s).zones = s.zones ∧ (setRecords m n s).orders = s.orders ∧
    (setRecords m n s).planner = s.planner ∧ (setRecords m n s).switch = s.switch ∧
    (setRecords m n s).sup = s.sup ∧ (setRecords m n s).store = s.store ∧
    (setRecords m n s).reports = s.reports ∧ (setRecords m n s).link = s.link ∧
    (setRecords m n s).pending = s.pending :=
  by simp [setRecords]

@[simp] theorem testList_keeps (gs : List GroupId) (s : State) :
    (forGroups gs testGroup s).now = s.now ∧ (forGroups gs testGroup s).mtu = s.mtu ∧
    (forGroups gs testGroup s).zones = s.zones ∧ (forGroups gs testGroup s).orders = s.orders ∧
    (forGroups gs testGroup s).planner = s.planner ∧
    (forGroups gs testGroup s).switch = s.switch ∧ (forGroups gs testGroup s).sup = s.sup ∧
    (forGroups gs testGroup s).link = s.link ∧ (forGroups gs testGroup s).pending = s.pending :=
  ⟨forGroups_keeps State.now (fun _ _ => by simp) _ _,
    forGroups_keeps State.mtu (fun _ _ => by simp) _ _,
    forGroups_keeps State.zones (fun _ _ => by simp) _ _,
    forGroups_keeps State.orders (fun _ _ => by simp) _ _,
    forGroups_keeps State.planner (fun _ _ => by simp) _ _,
    forGroups_keeps State.switch (fun _ _ => by simp) _ _,
    forGroups_keeps State.sup (fun _ _ => by simp) _ _,
    forGroups_keeps State.link (fun _ _ => by simp) _ _,
    forGroups_keeps State.pending (fun _ _ => by simp) _ _⟩

@[simp] theorem withdrawList_keeps (gs : List GroupId) (r : HaltReason) (s : State) :
    (forGroups gs (fun g => withdrawGroup g r) s).now = s.now ∧
    (forGroups gs (fun g => withdrawGroup g r) s).mtu = s.mtu ∧
    (forGroups gs (fun g => withdrawGroup g r) s).planner = s.planner ∧
    (forGroups gs (fun g => withdrawGroup g r) s).switch = s.switch ∧
    (forGroups gs (fun g => withdrawGroup g r) s).sup = s.sup ∧
    (forGroups gs (fun g => withdrawGroup g r) s).gcc = s.gcc ∧
    (forGroups gs (fun g => withdrawGroup g r) s).store = s.store ∧
    (forGroups gs (fun g => withdrawGroup g r) s).link = s.link ∧
    (forGroups gs (fun g => withdrawGroup g r) s).pending = s.pending :=
  ⟨forGroups_keeps State.now (fun _ _ => by simp) _ _,
    forGroups_keeps State.mtu (fun _ _ => by simp) _ _,
    forGroups_keeps State.planner (fun _ _ => by simp) _ _,
    forGroups_keeps State.switch (fun _ _ => by simp) _ _,
    forGroups_keeps State.sup (fun _ _ => by simp) _ _,
    forGroups_keeps State.gcc (fun _ _ => by simp) _ _,
    forGroups_keeps State.store (fun _ _ => by simp) _ _,
    forGroups_keeps State.link (fun _ _ => by simp) _ _,
    forGroups_keeps State.pending (fun _ _ => by simp) _ _⟩

@[simp] theorem afterTrip_keeps (m : GroupSet) (s : State) :
    (afterTrip m s).now = s.now ∧ (afterTrip m s).mtu = s.mtu ∧
    (afterTrip m s).planner = s.planner ∧ (afterTrip m s).switch = s.switch ∧
    (afterTrip m s).sup = s.sup ∧ (afterTrip m s).link = s.link ∧
    (afterTrip m s).pending = s.pending :=
  by simp [afterTrip]

@[simp] theorem trip_keeps (c : TripCause) (p : GroupId → Bool) (zs : List LockedZone) (s : State) :
    ((trip c p zs s).1).now = s.now ∧ ((trip c p zs s).1).mtu = s.mtu ∧
    ((trip c p zs s).1).planner = s.planner ∧ ((trip c p zs s).1).switch = s.switch ∧
    ((trip c p zs s).1).sup = s.sup ∧ ((trip c p zs s).1).link = s.link ∧
    ((trip c p zs s).1).pending = s.pending :=
  by unfold trip; dsimp only; split <;> simp

@[simp] theorem tripEvery_keeps (c : TripCause) (s : State) :
    ((tripEvery c s).1).now = s.now ∧ ((tripEvery c s).1).mtu = s.mtu ∧
    ((tripEvery c s).1).planner = s.planner ∧ ((tripEvery c s).1).switch = s.switch ∧
    ((tripEvery c s).1).sup = s.sup ∧ ((tripEvery c s).1).link = s.link ∧
    ((tripEvery c s).1).pending = s.pending :=
  by simp [tripEvery]

@[simp] theorem stuckOnTrip_keeps (z : ZoneId) (s : State) :
    ((stuckOnTrip z s).1).now = s.now ∧ ((stuckOnTrip z s).1).mtu = s.mtu ∧
    ((stuckOnTrip z s).1).planner = s.planner ∧ ((stuckOnTrip z s).1).switch = s.switch ∧
    ((stuckOnTrip z s).1).sup = s.sup ∧ ((stuckOnTrip z s).1).link = s.link ∧
    ((stuckOnTrip z s).1).pending = s.pending :=
  by unfold stuckOnTrip; dsimp only; split <;> [split; skip] <;> simp

@[simp] theorem weldGroup_keeps (g : GroupId) (s : State) :
    (weldGroup g s).now = s.now ∧ (weldGroup g s).mtu = s.mtu ∧ (weldGroup g s).zones = s.zones ∧
    (weldGroup g s).orders = s.orders ∧ (weldGroup g s).planner = s.planner ∧
    (weldGroup g s).switch = s.switch ∧ (weldGroup g s).sup = s.sup ∧
    (weldGroup g s).store = s.store ∧ (weldGroup g s).reports = s.reports ∧
    (weldGroup g s).link = s.link ∧ (weldGroup g s).pending = s.pending :=
  by simp [weldGroup]

@[simp] theorem weldRecord_keeps (g : GroupId) (c : WeldCause) (s : State) :
    (weldRecord g c s).now = s.now ∧ (weldRecord g c s).mtu = s.mtu ∧
    (weldRecord g c s).zones = s.zones ∧ (weldRecord g c s).orders = s.orders ∧
    (weldRecord g c s).planner = s.planner ∧ (weldRecord g c s).switch = s.switch ∧
    (weldRecord g c s).sup = s.sup ∧ (weldRecord g c s).reports = s.reports ∧
    (weldRecord g c s).link = s.link ∧ (weldRecord g c s).pending = s.pending :=
  by unfold weldRecord; dsimp only; split <;> simp

@[simp] theorem weld_keeps (g : GroupId) (c : WeldCause) (s : State) :
    (weld g c s).now = s.now ∧ (weld g c s).mtu = s.mtu ∧ (weld g c s).planner = s.planner ∧
    (weld g c s).switch = s.switch ∧ (weld g c s).sup = s.sup ∧ (weld g c s).link = s.link ∧
    (weld g c s).pending = s.pending :=
  by simp [weld]

@[simp] theorem releaseCoil_keeps (g : GroupId) (s : State) :
    (releaseCoil g s).now = s.now ∧ (releaseCoil g s).mtu = s.mtu ∧
    (releaseCoil g s).zones = s.zones ∧ (releaseCoil g s).orders = s.orders ∧
    (releaseCoil g s).planner = s.planner ∧ (releaseCoil g s).switch = s.switch ∧
    (releaseCoil g s).sup = s.sup ∧ (releaseCoil g s).store = s.store ∧
    (releaseCoil g s).reports = s.reports ∧ (releaseCoil g s).link = s.link ∧
    (releaseCoil g s).pending = s.pending :=
  by simp [releaseCoil]

@[simp] theorem releaseAtCrossing_keeps (g : GroupId) (s : State) :
    (releaseAtCrossing g s).now = s.now ∧ (releaseAtCrossing g s).mtu = s.mtu ∧
    (releaseAtCrossing g s).zones = s.zones ∧ (releaseAtCrossing g s).orders = s.orders ∧
    (releaseAtCrossing g s).planner = s.planner ∧ (releaseAtCrossing g s).switch = s.switch ∧
    (releaseAtCrossing g s).sup = s.sup ∧ (releaseAtCrossing g s).store = s.store ∧
    (releaseAtCrossing g s).reports = s.reports ∧ (releaseAtCrossing g s).link = s.link ∧
    (releaseAtCrossing g s).pending = s.pending :=
  by unfold releaseAtCrossing; split <;> simp

@[simp] theorem contactorsAtCrossing_keeps (s : State) :
    (contactorsAtCrossing s).now = s.now ∧ (contactorsAtCrossing s).mtu = s.mtu ∧
    (contactorsAtCrossing s).zones = s.zones ∧ (contactorsAtCrossing s).orders = s.orders ∧
    (contactorsAtCrossing s).planner = s.planner ∧ (contactorsAtCrossing s).switch = s.switch ∧
    (contactorsAtCrossing s).sup = s.sup ∧ (contactorsAtCrossing s).store = s.store ∧
    (contactorsAtCrossing s).reports = s.reports ∧ (contactorsAtCrossing s).link = s.link ∧
    (contactorsAtCrossing s).pending = s.pending :=
  ⟨forGroups_keeps State.now (fun _ _ => by simp) _ _,
    forGroups_keeps State.mtu (fun _ _ => by simp) _ _,
    forGroups_keeps State.zones (fun _ _ => by simp) _ _,
    forGroups_keeps State.orders (fun _ _ => by simp) _ _,
    forGroups_keeps State.planner (fun _ _ => by simp) _ _,
    forGroups_keeps State.switch (fun _ _ => by simp) _ _,
    forGroups_keeps State.sup (fun _ _ => by simp) _ _,
    forGroups_keeps State.store (fun _ _ => by simp) _ _,
    forGroups_keeps State.reports (fun _ _ => by simp) _ _,
    forGroups_keeps State.link (fun _ _ => by simp) _ _,
    forGroups_keeps State.pending (fun _ _ => by simp) _ _⟩

@[simp] theorem openConfirmed_keeps (g : GroupId) (s : State) :
    (openConfirmed g s).now = s.now ∧ (openConfirmed g s).mtu = s.mtu ∧
    (openConfirmed g s).zones = s.zones ∧ (openConfirmed g s).orders = s.orders ∧
    (openConfirmed g s).planner = s.planner ∧ (openConfirmed g s).switch = s.switch ∧
    (openConfirmed g s).sup = s.sup ∧ (openConfirmed g s).store = s.store ∧
    (openConfirmed g s).link = s.link ∧ (openConfirmed g s).pending = s.pending :=
  by simp [openConfirmed]

@[simp] theorem testOpening_keeps (g : GroupId) (s : State) :
    (testOpening g s).now = s.now ∧ (testOpening g s).mtu = s.mtu ∧
    (testOpening g s).zones = s.zones ∧ (testOpening g s).orders = s.orders ∧
    (testOpening g s).planner = s.planner ∧ (testOpening g s).switch = s.switch ∧
    (testOpening g s).sup = s.sup ∧ (testOpening g s).store = s.store ∧
    (testOpening g s).link = s.link ∧ (testOpening g s).pending = s.pending :=
  by unfold testOpening; split <;> simp

@[simp] theorem openFromClosed_keeps (g : GroupId) (s : State) :
    (openFromClosed g s).now = s.now ∧ (openFromClosed g s).mtu = s.mtu ∧
    (openFromClosed g s).planner = s.planner ∧ (openFromClosed g s).switch = s.switch ∧
    (openFromClosed g s).sup = s.sup ∧ (openFromClosed g s).store = s.store ∧
    (openFromClosed g s).link = s.link ∧ (openFromClosed g s).pending = s.pending :=
  by unfold openFromClosed; dsimp only; split <;> simp

@[simp] theorem openFromClosing_keeps (g : GroupId) (s : State) :
    (openFromClosing g s).now = s.now ∧ (openFromClosing g s).mtu = s.mtu ∧
    (openFromClosing g s).planner = s.planner ∧ (openFromClosing g s).switch = s.switch ∧
    (openFromClosing g s).sup = s.sup ∧ (openFromClosing g s).store = s.store ∧
    (openFromClosing g s).link = s.link ∧ (openFromClosing g s).pending = s.pending :=
  by simp [openFromClosing]

@[simp] theorem closeConfirmed_keeps (g : GroupId) (s : State) :
    (closeConfirmed g s).now = s.now ∧ (closeConfirmed g s).mtu = s.mtu ∧
    (closeConfirmed g s).zones = s.zones ∧ (closeConfirmed g s).orders = s.orders ∧
    (closeConfirmed g s).planner = s.planner ∧ (closeConfirmed g s).switch = s.switch ∧
    (closeConfirmed g s).sup = s.sup ∧ (closeConfirmed g s).store = s.store ∧
    (closeConfirmed g s).link = s.link ∧ (closeConfirmed g s).pending = s.pending :=
  by simp [closeConfirmed]

@[simp] theorem closeFailed_keeps (g : GroupId) (s : State) :
    (closeFailed g s).now = s.now ∧ (closeFailed g s).mtu = s.mtu ∧
    (closeFailed g s).zones = s.zones ∧ (closeFailed g s).orders = s.orders ∧
    (closeFailed g s).planner = s.planner ∧ (closeFailed g s).switch = s.switch ∧
    (closeFailed g s).sup = s.sup ∧ (closeFailed g s).store = s.store ∧
    (closeFailed g s).link = s.link ∧ (closeFailed g s).pending = s.pending :=
  by simp [closeFailed]

@[simp] theorem stuckContact_keeps (g : GroupId) (s : State) :
    (stuckContact g s).now = s.now ∧ (stuckContact g s).mtu = s.mtu ∧
    (stuckContact g s).zones = s.zones ∧ (stuckContact g s).orders = s.orders ∧
    (stuckContact g s).planner = s.planner ∧ (stuckContact g s).switch = s.switch ∧
    (stuckContact g s).sup = s.sup ∧ (stuckContact g s).store = s.store ∧
    (stuckContact g s).reports = s.reports ∧ (stuckContact g s).link = s.link ∧
    (stuckContact g s).pending = s.pending :=
  by unfold stuckContact; split <;> simp

@[simp] theorem auxHandled_keeps (g : GroupId) (s : State) :
    (auxHandled g s).now = s.now ∧ (auxHandled g s).mtu = s.mtu ∧
    (auxHandled g s).planner = s.planner ∧ (auxHandled g s).switch = s.switch ∧
    (auxHandled g s).sup = s.sup ∧ (auxHandled g s).link = s.link ∧
    (auxHandled g s).pending = s.pending :=
  by
  unfold auxHandled; split
  case h_3 => split <;> simp
  case h_4 => split <;> simp
  all_goals simp

@[simp] theorem auxChange_keeps (g : GroupId) (s : State) :
    (auxChange g s).mtu = s.mtu ∧ (auxChange g s).planner = s.planner ∧
    (auxChange g s).switch = s.switch ∧ (auxChange g s).sup = s.sup ∧
    (auxChange g s).link = s.link ∧ (auxChange g s).pending = s.pending :=
  by unfold auxChange; split <;> simp

@[simp] theorem stopChange_keeps (s : State) :
    (stopChange s).mtu = s.mtu ∧ (stopChange s).planner = s.planner ∧
    (stopChange s).switch = s.switch ∧ (stopChange s).sup = s.sup ∧ (stopChange s).link = s.link ∧
    (stopChange s).pending = s.pending :=
  by unfold stopChange; split <;> [skip; (dsimp only; split)] <;> simp

@[simp] theorem testGroups_keeps (s : State) :
    (testGroups s).now = s.now ∧ (testGroups s).mtu = s.mtu ∧ (testGroups s).zones = s.zones ∧
    (testGroups s).orders = s.orders ∧ (testGroups s).planner = s.planner ∧
    (testGroups s).switch = s.switch ∧ (testGroups s).sup = s.sup ∧ (testGroups s).link = s.link ∧
    (testGroups s).pending = s.pending :=
  by simp [testGroups]

/-! ### Supervision unit -/

@[simp] theorem openLoadLatch_keeps (z : ZoneId) (s : State) :
    (openLoadLatch z s).now = s.now ∧ (openLoadLatch z s).mtu = s.mtu ∧
    (openLoadLatch z s).planner = s.planner ∧ (openLoadLatch z s).switch = s.switch ∧
    (openLoadLatch z s).gcc = s.gcc ∧ (openLoadLatch z s).store = s.store ∧
    (openLoadLatch z s).link = s.link ∧ (openLoadLatch z s).pending = s.pending :=
  by unfold openLoadLatch; split <;> simp

@[simp] theorem stuckOnLatch_keeps (z : ZoneId) (s : State) :
    (stuckOnLatch z s).now = s.now ∧ (stuckOnLatch z s).mtu = s.mtu ∧
    (stuckOnLatch z s).planner = s.planner ∧ (stuckOnLatch z s).switch = s.switch ∧
    (stuckOnLatch z s).sup = s.sup ∧ (stuckOnLatch z s).link = s.link ∧
    (stuckOnLatch z s).pending = s.pending :=
  by unfold stuckOnLatch; split <;> simp

@[simp] theorem suspect_keeps (z : ZoneId) (k : ScoreKind) (n : Nat) (s : State) :
    (suspect z k n s).now = s.now ∧ (suspect z k n s).mtu = s.mtu ∧
    (suspect z k n s).zones = s.zones ∧ (suspect z k n s).orders = s.orders ∧
    (suspect z k n s).planner = s.planner ∧ (suspect z k n s).switch = s.switch ∧
    (suspect z k n s).sup = s.sup ∧ (suspect z k n s).gcc = s.gcc ∧
    (suspect z k n s).store = s.store ∧ (suspect z k n s).link = s.link ∧
    (suspect z k n s).pending = s.pending :=
  by unfold suspect; split <;> simp

@[simp] theorem openStrike_keeps (z : ZoneId) (s : State) :
    (openStrike z s).now = s.now ∧ (openStrike z s).mtu = s.mtu ∧
    (openStrike z s).planner = s.planner ∧ (openStrike z s).switch = s.switch ∧
    (openStrike z s).gcc = s.gcc ∧ (openStrike z s).store = s.store ∧
    (openStrike z s).link = s.link ∧ (openStrike z s).pending = s.pending :=
  by unfold openStrike; dsimp only; split <;> [split; skip] <;> simp

@[simp] theorem stuckStrike_keeps (z : ZoneId) (s : State) :
    (stuckStrike z s).now = s.now ∧ (stuckStrike z s).mtu = s.mtu ∧
    (stuckStrike z s).planner = s.planner ∧ (stuckStrike z s).switch = s.switch ∧
    (stuckStrike z s).link = s.link ∧ (stuckStrike z s).pending = s.pending :=
  by unfold stuckStrike; dsimp only; split <;> [split; skip] <;> simp

@[simp] theorem applyCheck_keeps (z : ZoneId) (c : CheckResult) (s : State) :
    (applyCheck z c s).now = s.now ∧ (applyCheck z c s).mtu = s.mtu ∧
    (applyCheck z c s).planner = s.planner ∧ (applyCheck z c s).switch = s.switch ∧
    (applyCheck z c s).link = s.link ∧ (applyCheck z c s).pending = s.pending :=
  by unfold applyCheck; split <;> [skip; split; split] <;> simp

@[simp] theorem conductionChecks_keeps (cs : ZoneSet) (s : State) :
    (conductionChecks cs s).now = s.now ∧ (conductionChecks cs s).mtu = s.mtu ∧
    (conductionChecks cs s).planner = s.planner ∧ (conductionChecks cs s).switch = s.switch ∧
    (conductionChecks cs s).link = s.link ∧ (conductionChecks cs s).pending = s.pending :=
  ⟨forZones_keeps State.now (fun _ _ => by simp) _ _,
    forZones_keeps State.mtu (fun _ _ => by simp) _ _,
    forZones_keeps State.planner (fun _ _ => by simp) _ _,
    forZones_keeps State.switch (fun _ _ => by simp) _ _,
    forZones_keeps State.link (fun _ _ => by simp) _ _,
    forZones_keeps State.pending (fun _ _ => by simp) _ _⟩

@[simp] theorem supplyStrike_keeps (m e : Nat) (s : State) :
    (supplyStrike m e s).now = s.now ∧ (supplyStrike m e s).mtu = s.mtu ∧
    (supplyStrike m e s).zones = s.zones ∧ (supplyStrike m e s).orders = s.orders ∧
    (supplyStrike m e s).planner = s.planner ∧ (supplyStrike m e s).switch = s.switch ∧
    (supplyStrike m e s).gcc = s.gcc ∧ (supplyStrike m e s).store = s.store ∧
    (supplyStrike m e s).link = s.link ∧ (supplyStrike m e s).pending = s.pending :=
  by unfold supplyStrike; dsimp only; split <;> simp

@[simp] theorem supplyLatch_keeps (s : State) :
    (supplyLatch s).now = s.now ∧ (supplyLatch s).mtu = s.mtu ∧
    (supplyLatch s).planner = s.planner ∧ (supplyLatch s).switch = s.switch ∧
    (supplyLatch s).link = s.link ∧ (supplyLatch s).pending = s.pending :=
  by unfold supplyLatch; split <;> simp

@[simp] theorem checkSupply_keeps (r : DriveRecord) (s : State) :
    (checkSupply r s).now = s.now ∧ (checkSupply r s).mtu = s.mtu ∧
    (checkSupply r s).planner = s.planner ∧ (checkSupply r s).switch = s.switch ∧
    (checkSupply r s).link = s.link ∧ (checkSupply r s).pending = s.pending :=
  by unfold checkSupply; dsimp only; split <;> simp

@[simp] theorem leakOpen_keeps (z : ZoneId) (s : State) :
    (leakOpen z s).now = s.now ∧ (leakOpen z s).mtu = s.mtu ∧ (leakOpen z s).zones = s.zones ∧
    (leakOpen z s).orders = s.orders ∧ (leakOpen z s).planner = s.planner ∧
    (leakOpen z s).switch = s.switch ∧ (leakOpen z s).gcc = s.gcc ∧
    (leakOpen z s).store = s.store ∧ (leakOpen z s).link = s.link ∧
    (leakOpen z s).pending = s.pending :=
  by unfold leakOpen; dsimp only; split <;> [split; skip] <;> simp

@[simp] theorem leakStuck_keeps (z : ZoneId) (s : State) :
    (leakStuck z s).now = s.now ∧ (leakStuck z s).mtu = s.mtu ∧ (leakStuck z s).zones = s.zones ∧
    (leakStuck z s).orders = s.orders ∧ (leakStuck z s).planner = s.planner ∧
    (leakStuck z s).switch = s.switch ∧ (leakStuck z s).gcc = s.gcc ∧
    (leakStuck z s).store = s.store ∧ (leakStuck z s).link = s.link ∧
    (leakStuck z s).pending = s.pending :=
  by unfold leakStuck; dsimp only; split <;> [split; skip] <;> simp

@[simp] theorem leakZone_keeps (z : ZoneId) (s : State) :
    (leakZone z s).now = s.now ∧ (leakZone z s).mtu = s.mtu ∧ (leakZone z s).zones = s.zones ∧
    (leakZone z s).orders = s.orders ∧ (leakZone z s).planner = s.planner ∧
    (leakZone z s).switch = s.switch ∧ (leakZone z s).gcc = s.gcc ∧
    (leakZone z s).store = s.store ∧ (leakZone z s).link = s.link ∧
    (leakZone z s).pending = s.pending :=
  by simp [leakZone]

@[simp] theorem leakZones_keeps (zs : List ZoneId) (s : State) :
    (forZones zs leakZone s).now = s.now ∧ (forZones zs leakZone s).mtu = s.mtu ∧
    (forZones zs leakZone s).zones = s.zones ∧ (forZones zs leakZone s).orders = s.orders ∧
    (forZones zs leakZone s).planner = s.planner ∧ (forZones zs leakZone s).switch = s.switch ∧
    (forZones zs leakZone s).gcc = s.gcc ∧ (forZones zs leakZone s).store = s.store ∧
    (forZones zs leakZone s).link = s.link ∧ (forZones zs leakZone s).pending = s.pending :=
  ⟨forZones_keeps State.now (fun _ _ => by simp) _ _,
    forZones_keeps State.mtu (fun _ _ => by simp) _ _,
    forZones_keeps State.zones (fun _ _ => by simp) _ _,
    forZones_keeps State.orders (fun _ _ => by simp) _ _,
    forZones_keeps State.planner (fun _ _ => by simp) _ _,
    forZones_keeps State.switch (fun _ _ => by simp) _ _,
    forZones_keeps State.gcc (fun _ _ => by simp) _ _,
    forZones_keeps State.store (fun _ _ => by simp) _ _,
    forZones_keeps State.link (fun _ _ => by simp) _ _,
    forZones_keeps State.pending (fun _ _ => by simp) _ _⟩

@[simp] theorem leakSupply_keeps (s : State) :
    (leakSupply s).now = s.now ∧ (leakSupply s).mtu = s.mtu ∧ (leakSupply s).zones = s.zones ∧
    (leakSupply s).orders = s.orders ∧ (leakSupply s).planner = s.planner ∧
    (leakSupply s).switch = s.switch ∧ (leakSupply s).gcc = s.gcc ∧
    (leakSupply s).store = s.store ∧ (leakSupply s).link = s.link ∧
    (leakSupply s).pending = s.pending :=
  by unfold leakSupply; dsimp only; split <;> [split; skip] <;> simp

@[simp] theorem leakFrame_keeps (s : State) :
    (leakFrame s).now = s.now ∧ (leakFrame s).mtu = s.mtu ∧ (leakFrame s).zones = s.zones ∧
    (leakFrame s).orders = s.orders ∧ (leakFrame s).planner = s.planner ∧
    (leakFrame s).switch = s.switch ∧ (leakFrame s).gcc = s.gcc ∧ (leakFrame s).store = s.store ∧
    (leakFrame s).link = s.link ∧ (leakFrame s).pending = s.pending :=
  by simp [leakFrame]

@[simp] theorem takeReading_keeps (v : Nat) (s : State) :
    (takeReading v s).mtu = s.mtu ∧ (takeReading v s).zones = s.zones ∧
    (takeReading v s).orders = s.orders ∧ (takeReading v s).planner = s.planner ∧
    (takeReading v s).switch = s.switch ∧ (takeReading v s).gcc = s.gcc ∧
    (takeReading v s).store = s.store ∧ (takeReading v s).reports = s.reports ∧
    (takeReading v s).link = s.link ∧ (takeReading v s).pending = s.pending :=
  by unfold takeReading; split <;> simp

/-! ### Frame planner and switch stage -/

@[simp] theorem markZone_keeps (c : ZoneId → Choice) (z : ZoneId) (s : State) :
    (markZone c z s).now = s.now ∧ (markZone c z s).mtu = s.mtu ∧
    (markZone c z s).zones = s.zones ∧ (markZone c z s).planner = s.planner ∧
    (markZone c z s).switch = s.switch ∧ (markZone c z s).sup = s.sup ∧
    (markZone c z s).gcc = s.gcc ∧ (markZone c z s).store = s.store ∧
    (markZone c z s).reports = s.reports ∧ (markZone c z s).link = s.link ∧
    (markZone c z s).pending = s.pending :=
  by unfold markZone; split <;> simp

@[simp] theorem markZones_keeps (c : ZoneId → Choice) (zs : List ZoneId) (s : State) :
    (forZones zs (markZone c) s).now = s.now ∧ (forZones zs (markZone c) s).mtu = s.mtu ∧
    (forZones zs (markZone c) s).zones = s.zones ∧
    (forZones zs (markZone c) s).planner = s.planner ∧
    (forZones zs (markZone c) s).switch = s.switch ∧ (forZones zs (markZone c) s).sup = s.sup ∧
    (forZones zs (markZone c) s).gcc = s.gcc ∧ (forZones zs (markZone c) s).store = s.store ∧
    (forZones zs (markZone c) s).reports = s.reports ∧
    (forZones zs (markZone c) s).link = s.link ∧
    (forZones zs (markZone c) s).pending = s.pending :=
  ⟨forZones_keeps State.now (fun _ _ => by simp) _ _,
    forZones_keeps State.mtu (fun _ _ => by simp) _ _,
    forZones_keeps State.zones (fun _ _ => by simp) _ _,
    forZones_keeps State.planner (fun _ _ => by simp) _ _,
    forZones_keeps State.switch (fun _ _ => by simp) _ _,
    forZones_keeps State.sup (fun _ _ => by simp) _ _,
    forZones_keeps State.gcc (fun _ _ => by simp) _ _,
    forZones_keeps State.store (fun _ _ => by simp) _ _,
    forZones_keeps State.reports (fun _ _ => by simp) _ _,
    forZones_keeps State.link (fun _ _ => by simp) _ _,
    forZones_keeps State.pending (fun _ _ => by simp) _ _⟩

@[simp] theorem cut_keeps (f : BitVec 32) (l : Nat) (b : Bool) (s : State) :
    (cut f l b s).now = s.now ∧ (cut f l b s).mtu = s.mtu ∧ (cut f l b s).zones = s.zones ∧
    (cut f l b s).switch = s.switch ∧ (cut f l b s).sup = s.sup ∧ (cut f l b s).gcc = s.gcc ∧
    (cut f l b s).store = s.store ∧ (cut f l b s).reports = s.reports ∧
    (cut f l b s).link = s.link ∧ (cut f l b s).pending = s.pending :=
  by simp [cut]

@[simp] theorem commit_keeps (f : BitVec 32) (l : Nat) (b : Bool) (s : State) :
    (commit f l b s).now = s.now ∧ (commit f l b s).mtu = s.mtu ∧
    (commit f l b s).zones = s.zones ∧ (commit f l b s).orders = s.orders ∧
    (commit f l b s).switch = s.switch ∧ (commit f l b s).sup = s.sup ∧
    (commit f l b s).gcc = s.gcc ∧ (commit f l b s).store = s.store ∧
    (commit f l b s).link = s.link ∧ (commit f l b s).pending = s.pending :=
  by unfold commit; dsimp only; split <;> simp

@[simp] theorem accountZone_keeps (f : BitVec 32) (d : ZoneId → Bool) (z : ZoneId) (s : State) :
    (accountZone f d z s).now = s.now ∧ (accountZone f d z s).mtu = s.mtu ∧
    (accountZone f d z s).planner = s.planner ∧ (accountZone f d z s).switch = s.switch ∧
    (accountZone f d z s).sup = s.sup ∧ (accountZone f d z s).gcc = s.gcc ∧
    (accountZone f d z s).store = s.store ∧ (accountZone f d z s).link = s.link ∧
    (accountZone f d z s).pending = s.pending :=
  by unfold accountZone; split <;> simp

@[simp] theorem accountZones_keeps (f : BitVec 32) (d : ZoneId → Bool) (zs : List ZoneId) (s : State) :
    (forZones zs (accountZone f d) s).now = s.now ∧
    (forZones zs (accountZone f d) s).mtu = s.mtu ∧
    (forZones zs (accountZone f d) s).planner = s.planner ∧
    (forZones zs (accountZone f d) s).switch = s.switch ∧
    (forZones zs (accountZone f d) s).sup = s.sup ∧
    (forZones zs (accountZone f d) s).gcc = s.gcc ∧
    (forZones zs (accountZone f d) s).store = s.store ∧
    (forZones zs (accountZone f d) s).link = s.link ∧
    (forZones zs (accountZone f d) s).pending = s.pending :=
  ⟨forZones_keeps State.now (fun _ _ => by simp) _ _,
    forZones_keeps State.mtu (fun _ _ => by simp) _ _,
    forZones_keeps State.planner (fun _ _ => by simp) _ _,
    forZones_keeps State.switch (fun _ _ => by simp) _ _,
    forZones_keeps State.sup (fun _ _ => by simp) _ _,
    forZones_keeps State.gcc (fun _ _ => by simp) _ _,
    forZones_keeps State.store (fun _ _ => by simp) _ _,
    forZones_keeps State.link (fun _ _ => by simp) _ _,
    forZones_keeps State.pending (fun _ _ => by simp) _ _⟩

@[simp] theorem switchAtCrossing_keeps (f : BitVec 32) (l h : Nat) (b : Bool) (s : State) :
    (switchAtCrossing f l h b s).now = s.now ∧ (switchAtCrossing f l h b s).mtu = s.mtu ∧
    (switchAtCrossing f l h b s).planner = s.planner ∧ (switchAtCrossing f l h b s).sup = s.sup ∧
    (switchAtCrossing f l h b s).gcc = s.gcc ∧ (switchAtCrossing f l h b s).store = s.store ∧
    (switchAtCrossing f l h b s).link = s.link ∧
    (switchAtCrossing f l h b s).pending = s.pending :=
  by simp [switchAtCrossing]

/-! ### Mains timing unit -/

@[simp] theorem supervisionAtCrossing_keeps (c : Crossing) (s : State) :
    (supervisionAtCrossing c s).now = s.now ∧ (supervisionAtCrossing c s).mtu = s.mtu ∧
    (supervisionAtCrossing c s).planner = s.planner ∧
    (supervisionAtCrossing c s).switch = s.switch ∧ (supervisionAtCrossing c s).link = s.link ∧
    (supervisionAtCrossing c s).pending = s.pending :=
  by unfold supervisionAtCrossing; dsimp only; (repeat' split) <;> simp

@[simp] theorem plannerAtBoundary_keeps (c : Crossing) (s : State) :
    (plannerAtBoundary c s).now = s.now ∧ (plannerAtBoundary c s).mtu = s.mtu ∧
    (plannerAtBoundary c s).zones = s.zones ∧ (plannerAtBoundary c s).switch = s.switch ∧
    (plannerAtBoundary c s).sup = s.sup ∧ (plannerAtBoundary c s).gcc = s.gcc ∧
    (plannerAtBoundary c s).store = s.store ∧ (plannerAtBoundary c s).link = s.link ∧
    (plannerAtBoundary c s).pending = s.pending :=
  by unfold plannerAtBoundary; split <;> simp

@[simp] theorem takeCrossing_keeps (c : Crossing) (t : Taker) (s : State) :
    (takeCrossing c t s).now = s.now ∧ (takeCrossing c t s).mtu = s.mtu ∧
    (takeCrossing c t s).link = s.link ∧ (takeCrossing c t s).pending = s.pending :=
  by unfold takeCrossing; split <;> [skip; skip; skip; skip; split] <;> simp

@[simp] theorem handOn_keeps (order : List Taker) (c : Crossing) (s : State) :
    (handOn order c s).now = s.now ∧ (handOn order c s).mtu = s.mtu ∧
    (handOn order c s).link = s.link ∧ (handOn order c s).pending = s.pending :=
  by
  unfold handOn
  generalize takerOrder order = l
  induction l generalizing s with
  | nil => simp
  | cons t l ih => simp [ih]

@[simp] theorem loseMains_keeps (s : State) :
    (loseMains s).now = s.now ∧ (loseMains s).sup = s.sup ∧ (loseMains s).gcc = s.gcc ∧
    (loseMains s).store = s.store ∧ (loseMains s).link = s.link ∧
    (loseMains s).pending = s.pending :=
  by simp [loseMains]

/-- R7, R8: what a crossing in LOCKED makes of the mains timing unit. -/
theorem crossLocked_mtu (order : List Taker) (ref : Nat) (syn : Bool) (s : State) :
    (crossLocked order ref syn s).mtu = { s.mtu.advance with
      refTime := some ref, coast := syn,
      midDue := some (midInstant s.now ref s.mtu.period) } := by
  simp [crossLocked]

/-- R11: what a loss makes of the mains timing unit. -/
theorem loseMains_mtu (s : State) : (loseMains s).mtu = { s.mtu with
    state := .lost, coast := false, refTime := none, len := s.mtu.pendingLen, midDue := none } := by
  simp [loseMains]

/-- R8, R11: no window is over after a loss. -/
theorem loseMains_windowOver (s : State) (t : Nat) : (loseMains s).windowOver t = false := by
  simp [State.windowOver, loseMains_mtu]

/-- R8: an expired window sets the coast flag, or loses the mains. -/
theorem expireWindow_coasts (order : List Taker) (s : State) (t : Nat) :
    (expireWindow order s).windowOver t = true → (expireWindow order s).mtu.coast = true := by
  unfold expireWindow
  split
  · simp only
    split
    · simp [loseMains_windowOver]
    · simp [syntheticCrossing, crossLocked_mtu]
  · next h => simp [State.windowOver, h]

/-- R2, R8: once the overdue windows have expired none is overdue, so that no edge in LOCKED is long. -/
theorem settleWindow_windowOver (order : List Taker) (t : Nat) (s : State) :
    (settleWindow order t s).windowOver t = false := by
  have last : ∀ u : State, (u.windowOver t = true → u.mtu.coast = true) →
      (if u.windowOver t then expireWindow order u else u).windowOver t = false := by
    intro u hu
    split
    · next h =>
      unfold expireWindow
      split
      · simp [hu h, loseMains_windowOver]
      · next hr => simp [State.windowOver, hr]
    · next h => simpa using h
  unfold settleWindow
  split
  · exact last _ (expireWindow_coasts order s t)
  · next h => exact last s fun h' => absurd h' h

/-- An edge that finds no window overdue is classed at once. -/
theorem edgeAt_of_not_over (order : List Taker) (time : Nat) (s : State)
    (h : s.windowOver (max s.now time) = false) :
    edgeAt order time s = edge order (s.atTime time) := by
  simp [edgeAt, settleWindow, h]

@[simp] theorem midPoint_keeps (cs : ZoneSet) (b : Bool) (s : State) :
    (midPoint cs b s).now = s.now ∧ (midPoint cs b s).planner = s.planner ∧
    (midPoint cs b s).switch = s.switch ∧ (midPoint cs b s).link = s.link ∧
    (midPoint cs b s).pending = s.pending :=
  by cases b <;> simp [midPoint]

/-! ### Host link controller -/

@[simp] theorem chooseReport_keeps (s : State) :
    (chooseReport s).now = s.now ∧ (chooseReport s).mtu = s.mtu ∧
    (chooseReport s).zones = s.zones ∧ (chooseReport s).orders = s.orders ∧
    (chooseReport s).planner = s.planner ∧ (chooseReport s).switch = s.switch ∧
    (chooseReport s).sup = s.sup ∧ (chooseReport s).gcc = s.gcc ∧
    (chooseReport s).store = s.store ∧ (chooseReport s).pending = s.pending :=
  by unfold chooseReport; split <;> simp

@[simp] theorem txChoose_keeps (s : State) :
    (txChoose s).now = s.now ∧ (txChoose s).mtu = s.mtu ∧ (txChoose s).zones = s.zones ∧
    (txChoose s).orders = s.orders ∧ (txChoose s).planner = s.planner ∧
    (txChoose s).switch = s.switch ∧ (txChoose s).sup = s.sup ∧ (txChoose s).gcc = s.gcc ∧
    (txChoose s).store = s.store ∧ (txChoose s).pending = s.pending :=
  by unfold txChoose; split <;> [(split <;> [split; skip]); skip; skip] <;> simp

@[simp] theorem ackAdvances_keeps (s : State) :
    (ackAdvances s).now = s.now ∧ (ackAdvances s).mtu = s.mtu ∧ (ackAdvances s).zones = s.zones ∧
    (ackAdvances s).orders = s.orders ∧ (ackAdvances s).planner = s.planner ∧
    (ackAdvances s).switch = s.switch ∧ (ackAdvances s).sup = s.sup ∧
    (ackAdvances s).gcc = s.gcc ∧ (ackAdvances s).store = s.store ∧
    (ackAdvances s).reports = s.reports ∧ (ackAdvances s).pending = s.pending :=
  by unfold ackAdvances; split <;> simp

@[simp] theorem applyAck_keeps (a : Byte) (s : State) :
    (applyAck a s).now = s.now ∧ (applyAck a s).mtu = s.mtu ∧ (applyAck a s).zones = s.zones ∧
    (applyAck a s).orders = s.orders ∧ (applyAck a s).planner = s.planner ∧
    (applyAck a s).switch = s.switch ∧ (applyAck a s).sup = s.sup ∧ (applyAck a s).gcc = s.gcc ∧
    (applyAck a s).store = s.store ∧ (applyAck a s).pending = s.pending :=
  by unfold applyAck; dsimp only; split <;> [split; skip] <;> simp

@[simp] theorem replay_keeps (s : State) :
    (replay s).now = s.now ∧ (replay s).mtu = s.mtu ∧ (replay s).zones = s.zones ∧
    (replay s).orders = s.orders ∧ (replay s).planner = s.planner ∧ (replay s).switch = s.switch ∧
    (replay s).sup = s.sup ∧ (replay s).gcc = s.gcc ∧ (replay s).store = s.store ∧
    (replay s).reports = s.reports ∧ (replay s).pending = s.pending :=
  by simp [replay]

@[simp] theorem received_keeps (s : State) (hd : Header) :
    (s.received hd).mtu = s.mtu ∧ (s.received hd).zones = s.zones ∧
    (s.received hd).orders = s.orders ∧ (s.received hd).planner = s.planner ∧
    (s.received hd).switch = s.switch ∧ (s.received hd).sup = s.sup ∧
    (s.received hd).gcc = s.gcc ∧ (s.received hd).store = s.store ∧
    (s.received hd).pending = s.pending :=
  by simp [State.received]

end Sys2Proof.Machine
end

