-- ==== Sys2Proof/Laws/Requests.lean ====
section
/-! SUPPORT. What a request command comes to: the acknowledgement's part of the link, the busy, repeat and
executed cases of `serve`, and what the stored reply holds after the transmitter's choice. -/

namespace Sys2Proof.Machine

variable (s : State) (hd : Header)

/-- The transmitter's choice changes of the link only the transmitter, the pending mark and the two
counters of what it sends. -/
@[simp] theorem txChoose_link :
    (txChoose s).link.stored = s.link.stored ∧ (txChoose s).link.lastNum = s.link.lastNum ∧
    (txChoose s).link.rx = s.link.rx ∧ (txChoose s).link.rate = s.link.rate ∧
    (txChoose s).link.interval = s.link.interval ∧
    (txChoose s).link.retransmitAt = s.link.retransmitAt := by
  unfold txChoose
  split
  · split
    · split
      · simp [beginReply]
      · unfold chooseReport; split <;> simp [beginReport]
    · unfold chooseReport; split <;> simp [beginReport]
  · simp
  · simp

/-- A busy transmitter makes no choice. -/
theorem txChoose_busy (h : s.link.tx ≠ .idle) : txChoose s = s := by
  unfold txChoose
  split
  · next h' => exact absurd h' h
  · rfl
  · rfl

/-- R182: taking a report leaves the pending mark. -/
@[simp] theorem chooseReport_replyPending :
    (chooseReport s).link.replyPending = s.link.replyPending := by
  unfold chooseReport; split <;> simp [beginReport]

/-- A choice with no reply pending leaves none pending. -/
theorem txChoose_not_pending (h : s.link.replyPending = false) :
    (txChoose s).link.replyPending = false := by
  unfold txChoose
  split <;> simp [h]

/-- What an acknowledgement leaves of the link alone. -/
@[simp] theorem applyAck_link (a : Byte) :
    (applyAck a s).link.lastNum = s.link.lastNum ∧ (applyAck a s).link.stored = s.link.stored ∧
    (applyAck a s).link.rx = s.link.rx ∧ (applyAck a s).link.rate = s.link.rate ∧
    (applyAck a s).link.interval = s.link.interval := by
  unfold applyAck ackAdvances
  dsimp only
  (repeat' split) <;> simp

/-- R178, R182: an acknowledgement makes no reply pending. -/
theorem applyAck_not_pending (a : Byte) (h : s.link.replyPending = false) :
    (applyAck a s).link.replyPending = false := by
  unfold applyAck ackAdvances
  dsimp only
  (repeat' split) <;> first | exact txChoose_not_pending _ (by simpa using h) | simpa using h

/-- R182: while the transmitter is busy an acknowledgement leaves it and the pending mark. -/
theorem applyAck_busy (a : Byte) (h : s.link.tx ≠ .idle) :
    (applyAck a s).link.replyPending = s.link.replyPending ∧
    (applyAck a s).link.tx = s.link.tx := by
  unfold applyAck ackAdvances
  dsimp only
  (repeat' split) <;> first | (rw [txChoose_busy _ (by simpa using h)]; simp) | simp

/-- The same of the state in which a request is taken. -/
@[simp] theorem received_link :
    (s.received hd).link.lastNum = s.link.lastNum ∧
    (s.received hd).link.stored = s.link.stored ∧ (s.received hd).link.rx = s.link.rx ∧
    (s.received hd).link.rate = s.link.rate ∧
    (s.received hd).link.interval = s.link.interval := by
  simp [State.received]

theorem received_not_pending (h : s.link.replyPending = false) :
    (s.received hd).link.replyPending = false :=
  applyAck_not_pending _ _ (by simpa using h)

theorem received_busy (h : s.link.tx ≠ .idle) :
    (s.received hd).link.replyPending = s.link.replyPending ∧
    (s.received hd).link.tx = s.link.tx :=
  applyAck_busy ((s.atTime hd.time).count _) hd.ack h

@[simp] theorem received_now : (s.received hd).now = max s.now hd.time := by
  simp [State.received]

@[simp] theorem received_views :
    (∀ z, (s.received hd).zone z = s.zone z) ∧ (∀ z, (s.received hd).queue z = s.queue z) ∧
    (∀ g, (s.received hd).group g = s.group g) := by
  simp [State.zone, State.queue, State.group]

/-- R181: an accepted request in range gets its owner's answer. -/
theorem serve_of_accepts (r : Request) (h : s.accepts hd) (hr : r.inRange s.mtu.len = true) :
    serve hd r s = txChoose (storeReply hd.num r.typeCode (answer r (s.received hd)).result
      (answer r (s.received hd)).fields (answer r (s.received hd)).state) := by
  have e : serve hd r s = txChoose (handleRequest hd.num r.typeCode (.ok r) (s.received hd)) := rfl
  rw [e]
  simp [handleRequest, State.repeats, execute, received_not_pending s hd h.1, h.2, hr]

/-- R181 and R186: LINK_SYNC is executed whatever its number. -/
theorem serve_linkSync (h : s.link.replyPending = false) :
    serve hd .linkSync s = txChoose (storeReply hd.num 0x03 .ok
      (answerLinkSync (s.received hd)).fields (answerLinkSync (s.received hd)).state) := by
  have e : serve hd .linkSync s =
    txChoose (handleRequest hd.num 0x03 (.ok .linkSync) (s.received hd)) := rfl
  rw [e]
  simp [handleRequest, State.repeats, execute, received_not_pending s hd h, Request.inRange, answer, answerLinkSync,
    State.grant]

/-- R191: an accepted request with a field out of range is refused. -/
theorem serve_out_of_range (r : Request) (h : s.accepts hd) (hr : r.inRange s.mtu.len = false) :
    serve hd r s = txChoose (storeReply hd.num r.typeCode .range [] (s.received hd)) := by
  have e : serve hd r s = txChoose (handleRequest hd.num r.typeCode (.ok r) (s.received hd)) := rfl
  rw [e]
  simp [handleRequest, State.repeats, execute, received_not_pending s hd h.1, h.2, hr]

/-- R179: while a reply is pending, the transmitter being busy, a request is dropped. -/
theorem serve_busy (r : Request) (h : s.link.replyPending = true) (ht : s.link.tx ≠ .idle) :
    serve hd r s = txChoose ((s.received hd).count fun c =>
      { c with busyDrop := bump c.busyDrop }) := by
  have e : serve hd r s = txChoose (handleRequest hd.num r.typeCode (.ok r) (s.received hd)) := rfl
  rw [e]
  simp [handleRequest, received_busy s hd ht, h]

/-- R180: a repeated request is answered from the stored reply. -/
theorem serve_repeated (r : Request) (h : s.link.replyPending = false)
    (hn : s.link.lastNum = some hd.num) (hr : r.typeCode ≠ 0x03) :
    serve hd r s = txChoose (replay (s.received hd)) := by
  have e : serve hd r s = txChoose (handleRequest hd.num r.typeCode (.ok r) (s.received hd)) := rfl
  rw [e]
  have hb : (r.typeCode != 0x03) = true := by simpa using hr
  simp only [handleRequest, State.repeats, received_link, received_not_pending s hd h, hn, hb]
  simp

/-- R182: the stored reply after a request is the one it was given. -/
theorem replying_stored (type : Byte) (code : ResultCode) (fields : List Byte) :
    (s.replying hd type code fields).link.stored =
      some { num := hd.num, type := type, result := code, fields := fields } := by
  simp [State.replying]

/-- R190: what `storeReply` and the transmitter's choice make of an answer to a known request. -/
theorem replying_eq (type : Byte) (code : ResultCode) (fields : List Byte)
    (h : code ≠ .unknownRequest) :
    txChoose (storeReply hd.num type code fields s) = s.replying hd (type + 0x40) code fields := by
  simp [State.replying, storeReply, replyType, h]

end Sys2Proof.Machine
end

