-- ==== Sys2Proof/WellFormed.lean ====
section
/-! DEFINITION. Which commands are well formed. Field widths are in the types; what is left is that
the order in which the blocks take a crossing names no block twice. -/

namespace Sys2Proof

/-- No block is named twice. -/
def distinctTakers : List Taker → Bool
  | [] => true
  | t :: ts => !ts.contains t && distinctTakers ts

/-- The check on a command's operands. -/
def Instr.wf : Instr → Bool
  | .zxEdge _ order => distinctTakers order
  | .windowExpiry order => distinctTakers order
  | _ => true

end Sys2Proof
end

