-- ==== Sys2Proof/Tests/Slice0.lean ====
section
/-! SUPPORT. Tests: well-formedness, values the spec's tables print, and for each obligation with hypotheses
one theorem showing concrete states and operands that meet them. -/

open Sys2Proof Sys2Proof.Machine

namespace Sys2Proof.Tests

/-! ### Well-formedness: an ill-formed command for each check -/

theorem test_wf_refuses_edge_with_a_taker_twice :
    Instr.wf (.zxEdge 0 [.planner, .switchStage, .planner]) = false := by decide

theorem test_wf_refuses_window_with_a_taker_twice :
    Instr.wf (.windowExpiry [.zoneTable, .zoneTable]) = false := by decide

theorem test_wf_accepts_each_taker_once :
    Instr.wf (.zxEdge 0 [.planner, .switchStage]) = true := by decide

theorem test_no_word_spells_a_command : decodeTableWord 8 1 = none := by decide

/-! ### Values that the spec prints -/

/-- R176: the CRC over the nine characters "123456789". -/
theorem test_crc_check_value :
    crc16 [0x31, 0x32, 0x33, 0x34, 0x35, 0x36, 0x37, 0x38, 0x39] = 0x29B1 := by decide +kernel

/-- Table 4-4, r = 5 and r = 6. -/
theorem test_ideal_slots : (List.range 5).map (idealSlot 8 0 5) = [0, 1, 3, 4, 6] ∧
    (List.range 6).map (idealSlot 8 0 6) = [0, 1, 2, 4, 5, 6] := by decide

/-- The limits of section 4.10: supply 200, G0 130, G1 150. -/
def limits410 : Limits := { supply := 200, group := #v[130, 150, 0, 0] }

/-- An entry before placement. -/
def entryOf (r i : Nat) (g : GroupId) : Entry :=
  { source := .continuous, requested := r, granted := 0, slots := [], current := i, group := g }

/-- Z2 (80, G0, r 4, offset 2), Z9 (100, G1, r 3, offset 9), Z5 (60, G0, r 6, offset 5). -/
def placed410 : Entry × List SlotSum :=
  let a := placeEntry limits410 8 2 (entryOf 4 80 0) (List.replicate 8 .zero)
  let b := placeEntry limits410 8 9 (entryOf 3 100 1) a.2
  placeEntry limits410 8 5 (entryOf 6 60 0) b.2

/-- Table 4-7: Z5 is granted 4 of 6, at 5, 7, 1 and 3. -/
theorem test_placement_of_Z5 : placed410.1.granted = 4 ∧ placed410.1.slots = [5, 7, 1, 3] := by
  decide

/-- Table 4-8: Z14 (90, G1, r 5, offset 14) is granted 5, at 7, 0, 2, 4 and 5. -/
theorem test_placement_of_Z14 :
    (placeEntry limits410 8 14 (entryOf 5 90 1) placed410.2).1.slots = [7, 0, 2, 4, 5] := by decide

/-! ### States to test on -/

/-- A frame header: request number 1, acknowledgement 0, complete at `time`. -/
def hdAt (time : Nat) : Header := { time := time, num := 1, ack := 0 }

/-- A header at the present instant. -/
def hd0 : Header := hdAt 0

/-- Z0 in a zone state, configured. -/
def zoneIn (st : ZoneState) (demand lease : Nat) : State :=
  State.reset.setZone 0
    { Zone.reset 0 with state := st, configured := true, demand := demand, leaseLeft := lease }

/-- A waiting order. -/
def order (tag : Half) (st : OrderState) (fired remaining : Nat) : Order :=
  { tag := tag, handle := tag + 40, total := fired + remaining, cap := 4, fired := fired,
    remaining := remaining, state := st }

/-- Z0 in DOSING with some orders. -/
def dosing (q : List Order) : State := (zoneIn .dosing 0 0).setQueue 0 q

/-- A group's record. -/
def groupRec (st : GroupState) (coil aux pend : Bool) (k : Option TimerKind) (record : Half) : Group :=
  { state := st, coil := coil, aux := aux, releasePending := pend,
    timer := k.map fun k => { kind := k, expiry := 700 }, record := record, rawAux := aux,
    rawAuxSince := none }

/-- G0 with a record. -/
def groupIn (st : GroupState) (coil aux pend : Bool) (k : Option TimerKind) : State :=
  State.reset.setGroup 0 (groupRec st coil aux pend k 0)

/-- G0 with its raw KA line away from its debounced state since instant 300. -/
def auxAway (st : GroupState) (coil aux : Bool) (k : Option TimerKind) : State :=
  State.reset.setGroup 0
    { groupRec st coil aux false k 0 with rawAux := !aux, rawAuxSince := some 300 }

/-- The mains state of a machine otherwise at reset, with the reference time 10000 at instant 10000. -/
def mainsIn (st : MainsState) (coast : Bool) : State :=
  { State.reset with
    now := 10000,
    mtu := { Mtu.reset with
      state := st, refTime := some 10000, coast := coast, history := List.replicate 8 1000,
      period := 1000, len := 8, pendingLen := 8 } }

/-! ### A sound state in LOCKED

Frame 5, h = 2, L = 8; Z0 (1.0 A, G0) is in DEMAND of 2 with slots 3 and 7; G0 is CLOSED. -/

/-- Z0 in DEMAND. -/
def z0Locked : Zone :=
  { Zone.reset 0 with state := .demand, configured := true, demand := 2 }

/-- The limits in force. -/
def limitsLocked : Limits := { supply := 4000, group := #v[2000, 2000, 2000, 2000] }

/-- The plan of a frame: Z0 at slots 3 and 7. -/
def planLocked (frame : BitVec 32) : Plan :=
  { frame := frame, len := 8, limits := limitsLocked,
    entries := Vector.ofFn fun z =>
      if z = 0 then { source := .continuous, requested := 2, granted := 2, slots := [3, 7],
                      current := 10, group := 0 }
      else .empty (Zone.reset z).cfg,
    sums := (List.range 8).map fun h =>
      if h = 3 ∨ h = 7 then { supply := 10, group := #v[10, 0, 0, 0] } else .zero }

/-- The drive record of the present half-cycle. -/
def recordLocked (h : Nat) : DriveRecord :=
  { frame := 5, h := h, synthetic := false, set := 0, current := 0, status := .opened }

/-- The sound state, at half-cycle h of frame 5. -/
def lockedAt (h : Nat) : State :=
  { State.reset with
    now := 10000,
    mtu := { Mtu.reset with
      state := .locked, refTime := some 10000, history := List.replicate 8 1000, period := 1000,
      h := h, len := 8, pendingLen := 8, frame := 5, midDue := some 10500 },
    zones := State.reset.zones.set 0 z0Locked,
    planner := { Planner.reset with
      pendingLimits := limitsLocked, limits := limitsLocked, committed := some (planLocked 5),
      building := some (planLocked 6),
      summary := { Planner.reset.summary with governs := true } },
    switch := { SwitchStage.reset with present := some (recordLocked h) },
    gcc := { State.reset.gcc with
      groups := State.reset.gcc.groups.set 0 (groupRec .closed true true false none 0) },
    pending := [.nop hd0] }

/-- The sound state in SEARCHING, one valid edge short of the lock. -/
def searching7 : State :=
  { State.reset with
    now := 10000,
    mtu := { Mtu.reset with
      refTime := some 10000, run := 7, history := List.replicate 7 1000, period := 1000 },
    pending := [.nop hd0] }

theorem locked_mtu : ∀ h ∈ [2, 7], (lockedAt h).mtu.sound := by
  unfold Mtu.sound; decide

theorem locked_queues : ∀ h ∈ [2, 7], ∀ z, (lockedAt h).queue z = [] := by decide

theorem locked_zone_records : ∀ h ∈ [2, 7], ∀ z, ((lockedAt h).zone z).sound 8 [] := by
  unfold Zone.sound ZoneConfig.sound; decide

theorem queueSound_nil : queueSound [] := by simp [queueSound]

theorem locked_zones (h : Nat) (hh : h ∈ [2, 7]) : (lockedAt h).zonesSound :=
  ⟨fun z => by rw [locked_queues h hh z]; exact locked_zone_records h hh z,
   fun z => by rw [locked_queues h hh z]; exact queueSound_nil, fun n => absurd rfl n⟩

theorem locked_scores : ∀ h ∈ [2, 7], (lockedAt h).scoresSound := by
  unfold State.scoresSound; decide

theorem locked_groups : ∀ h ∈ [2, 7], (lockedAt h).groupsSound := by
  unfold State.groupsSound Group.sound Group.live; decide

theorem locked_lockedZones : ∀ h ∈ [2, 7], (lockedAt h).lockedZonesSound := by
  unfold State.lockedZonesSound; decide

theorem locked_store : ∀ h ∈ [2, 7], (lockedAt h).storeSound := by
  unfold State.storeSound; decide

theorem locked_reports : ∀ h ∈ [2, 7], (lockedAt h).reports.sound := by
  unfold ReportQueue.sound sentBefore; decide

theorem locked_counters : ∀ n ∈ State.reset.link.counters.list, n ≤ max16 := by decide

theorem plan_parts : ∀ n ∈ [5, 6], (planLocked (BitVec.ofNat 32 n)).sound := by
  unfold Plan.sound; decide

/-- The link of every state that keeps the reset state's link and reports. -/
theorem reset_link (s : State) (hl : s.link = State.reset.link) (hr : s.reports = State.reset.reports) :
    s.linkSound := by
  unfold State.linkSound
  rw [hl, hr]
  exact ⟨⟨rfl, rfl⟩, rfl, nofun, by decide, locked_counters, nofun, nofun,
    fun _ h => absurd rfl (h startupFrame)⟩

theorem locked_sound (h : Nat) (hh : h ∈ [2, 7]) : (lockedAt h).sound := by
  refine ⟨locked_mtu h hh, locked_zones h hh, ?_, ?_, locked_scores h hh, locked_groups h hh,
    locked_lockedZones h hh, locked_store h hh, locked_reports h hh, reset_link _ rfl rfl⟩
  · refine ⟨?_, ?_, fun _ => ⟨⟨_, rfl, rfl, rfl⟩, ⟨_, rfl, (by decide : (6 : BitVec 32) = 5 + 1), rfl⟩⟩, fun n => absurd rfl n,
      ⟨fun _ => rfl, fun _ => rfl⟩, fun z => ?_⟩
    · rintro p ⟨⟩; exact plan_parts 5 (by decide)
    · rintro p ⟨⟩; exact plan_parts 6 (by decide)
    · have : (lockedAt h).planner.curtailed = Vector.ofFn fun _ => 0 := rfl
      simp [this]
  · refine ⟨fun _ => ⟨_, rfl, rfl, rfl, rfl, rfl, fun p _ => Nat.zero_le _⟩, fun n => absurd rfl n,
      nofun, fun z => ?_⟩
    have : (lockedAt h).switch.fired = Vector.ofFn fun _ => 0 := rfl
    simp [this]

theorem searching_mtu : searching7.mtu.sound := by unfold Mtu.sound; decide

theorem searching_zones : ∀ z, (searching7.zone z).sound 32 [] := by
  unfold Zone.sound ZoneConfig.sound; decide

theorem searching_queues : ∀ z, searching7.queue z = [] := by decide

theorem searching_lockedZones : searching7.lockedZonesSound := by
  unfold State.lockedZonesSound; decide

theorem searching_scores : searching7.scoresSound := by unfold State.scoresSound; decide

theorem searching_groups : searching7.groupsSound := by
  unfold State.groupsSound Group.sound Group.live; decide

theorem searching_store : searching7.storeSound := by unfold State.storeSound; decide

theorem searching_sound : searching7.sound := by
  have hq := searching_queues
  refine ⟨searching_mtu, ⟨fun z => by rw [hq z]; exact searching_zones z, fun z => by rw [hq z]; exact queueSound_nil,
      fun _ z o ho => by rw [hq z] at ho; cases ho⟩,
    ⟨nofun, nofun, nofun, fun _ => ⟨rfl, rfl⟩, ⟨nofun, nofun⟩, fun z => ?_⟩,
    ⟨nofun, fun _ => ⟨rfl, nofun⟩, nofun, fun z => ?_⟩,
    searching_scores, searching_groups, searching_lockedZones, searching_store, locked_reports 2 (by decide),
    reset_link _ rfl rfl⟩
  · have : searching7.planner.curtailed = Vector.ofFn fun _ => 0 := rfl
    simp [this]
  · have : searching7.switch.fired = Vector.ofFn fun _ => 0 := rfl
    simp [this]

/-! ### Witnesses: the reset, the step, the invariants -/

theorem witness_StepRunsTheFrontCommand : State.reset.pending = [] := rfl

/-- A trip record of G0 and a store that holds some. -/
def tripRec (n : Half) (o : GroupOutcome) (rel : Bool) : TripRecord :=
  { number := n, cause := .host, groups := 1, lockedZones := [], frame := 0, h := 0,
    mains := .searching, drive := none, supply := none, conduction := none, aux := 0,
    outcomes := #v[o, .notInSet, .notInSet, .notInSet], released := rel }

def storing (rs : List TripRecord) : State :=
  { State.reset with store := { records := rs, next := 48, lost := 0 } }

/-- Records 40 to 47, of which the first `n` are resolved and released. -/
def eight (n : Nat) : List TripRecord :=
  (List.range 8).map fun i => tripRec (BitVec.ofNat 16 (40 + i)) .cleared (decide (i < n))

theorem witness_PinResetKeepsTheTripRecordStore : ∃ t r r',
    exec (.pinReset 5 ⟨true, false⟩) (storing [tripRec 42 .pending false]) = .next t ∧
    t.store.records[0]? = some r' ∧ r.outcomes[0] = GroupOutcome.pending ∧
    (storing [tripRec 42 .pending false]).store.records[0]? = some r ∧
    r'.outcomes[0] = GroupOutcome.unverified := ⟨_, _, _, rfl, rfl, rfl, rfl, rfl⟩

theorem witness_ResetIsTheSoundStateAfterPowerOn : State.reset.now = 0 ∧
    (∀ g, (State.reset.group g).rawAux = false) ∧ State.reset.gcc.rawStop = false ∧
    State.reset.pending = [] := by decide

/-- The ten statements StepKeeps…: a sound state in mid-frame and one at the frame's end. -/
theorem witness_StepKeeps (h : Nat) (hh : h ∈ [2, 7]) :
    (lockedAt h).sound ∧ (lockedAt h).reports.sound ∧ ∃ t, step (lockedAt h) = .next t :=
  ⟨locked_sound h hh, locked_reports h hh, _, rfl⟩

/-! ### Witnesses: mains timing -/

/-- At 6.99 ms, in SEARCHING and in LOCKED. -/
theorem witness_GlitchOnlyRaisesItsCount : ∀ st ∈ [MainsState.searching, .locked],
    (mainsIn st false).mtu.state ≠ .lost ∧ (mainsIn st false).mtu.refTime = some 10000 ∧
    max (mainsIn st false).now 10699 - 10000 < 700 := by decide

/-- SEARCHING with a run of 6, for the edges at 7.00, 12.50 and 12.51 ms. -/
def run6 : Mtu :=
  { Mtu.reset with
    refTime := some 10000, run := 6, history := List.replicate 6 1000, period := 1000 }

theorem witness_EdgesOutsideLockCountTowardsLock :
    (State.reset.mtu.state = .searching ∧ State.reset.mtu.refTime = none) ∧
    (run6.sound ∧ run6.state = .searching ∧ run6.refTime = some 10000 ∧ run6.run + 1 < 8) ∧
    (700 ≤ max 10000 10700 - 10000 ∧ max 10000 11250 - 10000 ≤ 1250 ∧
      1250 < max 10000 11251 - 10000) ∧
    (mainsIn .lost false).mtu.state = .lost := by
  unfold Mtu.sound; decide

/-- At 7.00 ms and at 12.50 ms. -/
theorem witness_EighthValidEdgeLocksTheMains : searching7.sound ∧
    searching7.mtu.state = .searching ∧ searching7.mtu.refTime = some 10000 ∧
    searching7.mtu.run = 7 ∧ searching7.reports.mask.getLsbD 0 = true ∧
    searching7.reports.entries.length < 48 ∧
    ∀ t ∈ [10700, 11250], 700 ≤ max searching7.now t - 10000 ∧ max searching7.now t - 10000 ≤ 1250 :=
  ⟨searching_sound, by decide⟩

theorem witness_ZeroCrossingAdvancesTheHalfCycle : ∀ h ∈ [2, 7], (lockedAt h).mtu.sound ∧
    (lockedAt h).mtu.state = .locked ∧ (lockedAt h).mtu.refTime = some 10000 ∧
    (lockedAt h).mtu.coast = false ∧
    ∀ t ∈ [10700, 11250], 700 ≤ max (lockedAt h).now t - 10000 ∧
      max (lockedAt h).now t - 10000 ≤ 1250 := fun h hh => ⟨locked_mtu h hh, rfl, rfl, rfl, by
    show ∀ t ∈ [10700, 11250], 700 ≤ max 10000 t - 10000 ∧ max 10000 t - 10000 ≤ 1250
    decide⟩

/-- The instants of the overdue edges, at which the synthetic crossing lies 2.51, 7.00, 12.50 and 12.51 ms
back; and the same with the coast flag set. -/
theorem witness_ZeroCrossingAdvancesTheHalfCycle_overdue :
    (mainsIn .locked true).mtu.state = .locked ∧ (mainsIn .locked true).mtu.refTime = some 10000 ∧
    (mainsIn .locked true).mtu.coast = true ∧ (mainsIn .locked false).mtu.coast = false ∧
    (∀ t ∈ [11251, 11700, 12250, 12251], 10000 + 1250 < max (mainsIn .locked false).now t) ∧
    ([11251, 11700, 12250, 12251].map fun t =>
      max (mainsIn .locked false).now t - (10000 + (mainsIn .locked false).mtu.period)) =
        [251, 700, 1250, 1251] := by decide

theorem witness_ZeroCrossingAdvancesTheHalfCycle_sound : ∀ h ∈ [2, 7], ∀ b,
    ({ (lockedAt h).mtu with coast := b } : Mtu).sound := by
  unfold Mtu.sound; decide

theorem witness_SecondWindowExpiryLosesTheMains : (mainsIn .locked true).mtu.state = .locked ∧
    (mainsIn .locked true).mtu.refTime = some 10000 ∧ (mainsIn .locked true).mtu.coast = true := by
  decide

/-! ### Witnesses: the mid-half-cycle point and the supply current -/

/-- G1 TRIPPING with its aux open and no zone in it. -/
def verifying : State := (lockedAt 2).setGroup 1 (groupRec .tripping false false false (some .verify) 0)

theorem witness_MidHalfCyclePointSamplesTheConduction : verifying.mtu.state = .locked ∧
    verifying.mtu.midDue = some 10500 ∧ (verifying.group 1).state = .tripping ∧
    (verifying.group 1).aux = false ∧ ∀ z, (verifying.zone z).cfg.group = 1 →
      (verifying.zone z).configured = true → inZones 1 z = false := by decide

/-- G0 TRIPPING with its aux closed, and with its aux open while its configured zone Z0 conducts. -/
theorem witness_MidHalfCyclePointSamplesTheConduction_failing :
    (∀ aux, (let s := (lockedAt 2).setGroup 0 (groupRec .tripping false aux false (some .verify) 0)
      s.mtu.state = .locked ∧ s.mtu.midDue = some 10500 ∧ (s.group 0).state = .tripping ∧
      (s.group 0).aux = aux ∧ (s.zone 0).cfg.group = 0 ∧ (s.zone 0).configured = true)) ∧
    inZones 1 0 = true := by decide

/-- Z0 in a state, driven or not, with its two scores. -/
def pointAt (st : ZoneState) (driven : Bool) (opn stk : Nat) : State :=
  let s := (lockedAt 2).setZone 0 { z0Locked with state := st }
  { s with
    switch := { s.switch with
      lines := if driven then 1 else 0,
      present := some { recordLocked 2 with set := if driven then 1 else 0 } },
    sup := { s.sup with
      openScores := s.sup.openScores.set 0 opn, stuckScores := s.sup.stuckScores.set 0 stk } }

/-- Each clause: no mismatch, an open-load strike below and at the limit of 3 (DEMAND and DISABLED), and a
stuck-on strike below and at the limit of 2. -/
theorem witness_PointRaisesTheScoresOfMismatches :
    (∀ s ∈ [pointAt .demand true 0 0, pointAt .demand true 2 0, pointAt .disabled true 2 0,
        pointAt .idle false 0 0, pointAt .idle false 0 1],
      s.mtu.state = .locked ∧ s.mtu.midDue = some 10500 ∧ (s.zone 0).configured = true ∧
      (s.groupOf 0).state = .closed ∧ (s.zone 0).cfg.openLimit = 3 ∧ (s.zone 0).cfg.stuckLimit = 2) ∧
    inZones (pointAt .demand true 2 0).drivenSet 0 = true ∧
    inZones (pointAt .idle false 0 1).drivenSet 0 = false ∧ inZones 0 0 = false ∧
    inZones 1 0 = true := by decide

/-- Single strikes: at the limit, one short of it, and the last one in every zone state; the stuck-on one
with G0 CLOSED, and TRIPPING with a record and with none. -/
theorem witness_PointRaisesTheScoresOfMismatches_strikes :
    (∀ st, ([3, 1, 2].map fun n => ((pointAt st true n 0).sup.openScores[(0 : ZoneId)],
        ((pointAt st true n 0).zone 0).cfg.openLimit, ((pointAt st true n 0).zone 0).state)) =
      [(3, 3, st), (1, 3, st), (2, 3, st)]) ∧
    (∀ st, ([2, 0, 1].map fun n => ((pointAt st false 0 n).sup.stuckScores[(0 : ZoneId)],
        ((pointAt st false 0 n).zone 0).cfg.stuckLimit, ((pointAt st false 0 n).zone 0).state)) =
      [(2, 2, st), (0, 2, st), (1, 2, st)]) ∧
    (∀ st n, (let s := (pointAt st false 0 1).setGroup 0 (groupRec .tripping true false false none n)
      (s.group (s.zone 0).cfg.group).state = .tripping ∧ (s.group 0).record = n)) ∧
    ∀ st, ((pointAt st false 0 1).group ((pointAt st false 0 1).zone 0).cfg.group).state = .closed ∧
      (pointAt st false 0 1).storeSound :=
  ⟨fun _ => rfl, fun _ => rfl, fun _ _ => ⟨rfl, rfl⟩, fun _ => ⟨rfl, locked_store 2 (by decide)⟩⟩

theorem witness_IsenseReadingJoinsTheAccumulation : (lockedAt 2).mtu.state = .locked ∧
    State.reset.mtu.state ≠ .locked := by decide

/-! ### Witnesses: zero crossings -/

/-- A real crossing at 7.00 and 12.50 ms and a synthetic one, within a frame and at its end, for the
statements on supervision and on the drive law. -/
theorem witness_crossings (h : Nat) (hh : h ∈ [2, 7]) : (lockedAt h).sound ∧
    (∀ i ∈ [Instr.zxEdge 10700 [], .zxEdge 11250 [.switchStage, .planner], .windowExpiry []],
      (lockedAt h).crossesAt i ∧ (i.takers = [] ∨ i.takers.head? = some .switchStage)) ∧
    (lockedAt h).switch.present = some (recordLocked h) ∧
    ((lockedAt 2).mtu.h + 1 < (lockedAt 2).mtu.len ∧
      ¬ (lockedAt 7).mtu.h + 1 < (lockedAt 7).mtu.len) := by
  refine ⟨locked_sound h hh, ?_, rfl, by decide, by decide⟩
  intro i hi
  simp only [List.mem_cons, List.not_mem_nil, or_false] at hi
  rcases hi with rfl | rfl | rfl
  · exact ⟨⟨rfl, 10000, rfl, (by decide : 700 ≤ max 10000 10700 - 10000),
      (by decide : max 10000 10700 - 10000 ≤ 1250)⟩, .inl rfl⟩
  · exact ⟨⟨rfl, 10000, rfl, (by decide : 700 ≤ max 10000 11250 - 10000),
      (by decide : max 10000 11250 - 10000 ≤ 1250)⟩, .inr rfl⟩
  · exact ⟨⟨rfl, rfl, rfl⟩, .inl rfl⟩

/-- A half-cycle of 0 A in which 400.0 A was measured, with the supply score one short of its limit. -/
def overdrawn (h : Nat) : State :=
  { lockedAt h with sup := { (lockedAt h).sup with supplyScore := 3, readings := [4000] } }

theorem overdrawn_scores : ∀ h ∈ [2, 7], (overdrawn h).scoresSound := by
  unfold State.scoresSound; decide

theorem overdrawn_sound (h : Nat) (hh : h ∈ [2, 7]) : (overdrawn h).sound := by
  obtain ⟨m, z, p, d, -, g, l, t, r, k⟩ := locked_sound h hh
  exact ⟨m, z, p, d, overdrawn_scores h hh, g, l, t, r, k⟩

/-- A check that fails and reaches the limit, while G0 is CLOSED, within a frame and at its end; and the
lock crossing. -/
theorem witness_CrossingChecksTheSupplyAndLeaksTheScores_latch : ∀ h ∈ [2, 7],
    (overdrawn h).sound ∧ (overdrawn h).crossesAt (.windowExpiry []) ∧ (overdrawn h).storeSound ∧
    (overdrawn h).switch.present = some (recordLocked h) ∧
    (let c := (overdrawn h).mtu.crossing false
     c.lock = false ∧ (overdrawn h).switch.recordOf c.endedFrame c.endedH = some (recordLocked h)) ∧
    (recordLocked h).status ≠ .cutShort ∧
    (overdrawn h).sup.offset + (recordLocked h).current * (overdrawn h).sup.percent / 100 < 4000 ∧
    (overdrawn h).sup.limit ≤ (overdrawn h).sup.supplyScore + 1 ∧
    ¬ (lockedAt h).sup.limit ≤ (lockedAt h).sup.supplyScore + 1 ∧
    ((overdrawn h).group 0).state = .closed ∧ (overdrawn h).store.records.length < 8 ∧
    (let c : Crossing := { (lockedAt 7).mtu.crossing false with lock := true }
     c.lock = true ∧ c.boundary = true) := by
  intro h hh
  refine ⟨overdrawn_sound h hh, ⟨rfl, rfl, rfl⟩, (overdrawn_sound h hh).2.2.2.2.2.2.2.1, rfl, ?_⟩
  revert h
  decide

/-- The boundary after half-cycle 7 of frame 5. -/
def boundary5 : Crossing := (lockedAt 7).mtu.crossing false

theorem witness_ZoneTableRunsDownTheLeases : boundary5.boundary = true := by decide

theorem witness_DriveLinesChangeOnlyAtCrossingsLossAndReset :
    (∀ time straps, Instr.nop hd0 ≠ .powerOn time straps) ∧
    (∀ time straps, Instr.nop hd0 ≠ .pinReset time straps) ∧
    (∀ time order, Instr.nop hd0 ≠ .zxEdge time order) ∧
    ∀ order, Instr.nop hd0 ≠ .windowExpiry order := ⟨nofun, nofun, nofun, nofun⟩

theorem witness_CrossingCountsClaimsAndConfirmsHalts (h : Nat) (hh : h ∈ [2, 7]) :
    ∀ z, queueSound ((lockedAt h).queue z) := fun z => by
  rw [locked_queues h hh z]; exact queueSound_nil

/-- Z0 in DOSING on the order with handle 41, with a queue. -/
def dosingAt (q : List Order) : State :=
  { (lockedAt 2).setZone 0 { z0Locked with state := .dosing, demand := 0 } with
    orders := { (lockedAt 2).orders with queues := (lockedAt 2).orders.queues.set 0 q },
    planner := { (lockedAt 2).planner with
      committed := some { planLocked 5 with
        entries := (planLocked 5).entries.set 0
          { (planLocked 5).entries[(0 : ZoneId)] with source := .order 41 } } } }

/-- A driven head with 1 and with 2 half-cycles remaining, claimed before or not, and a HALTING head, which
is not driven. -/
def headQueues : List (List Order) :=
  [[order 1 .active 1 1, order 2 .queued 0 3], [order 1 .planned 0 1], [order 1 .planned 0 2],
    [order 1 (.halting .aborted) 1 2, order 2 .queued 0 3]]

theorem headQueues_sound : ∀ q ∈ headQueues, queueSound q := by
  unfold queueSound Order.sound; decide

theorem dosingAt_queue (q : List Order) (z : ZoneId) :
    (dosingAt q).queue z = if z = 0 then q else [] := by
  revert z; intro ⟨z, hz⟩
  interval_cases z <;> rfl

theorem witness_CrossingCountsClaimsAndConfirmsHalts_heads : ∀ q ∈ headQueues,
    (∀ z, queueSound ((dosingAt q).queue z)) ∧
    (dosingAt q).drivesDose 5 8 3 0 = q.all fun o => !o.isHalting := by
  refine fun q hq => ⟨fun z => ?_, by revert q; decide⟩
  rw [dosingAt_queue]
  split
  · exact headQueues_sound q hq
  · exact queueSound_nil

/-- A boundary without and one with the L-changed marker, where the plan under construction is for the old
L. -/
theorem witness_SwitchStageAndPlannerMayTakeABoundaryInEitherOrder :
    ∀ c ∈ [boundary5, { boundary5 with len := 16, lChanged := true }], c.boundary = true ∧
    (lockedAt 7).planner.committed = some (planLocked 5) ∧ (planLocked 5).frame ≠ c.frame ∧
    (lockedAt 7).planner.building = some (planLocked 6) ∧
    (c.lChanged = true ∨ c.lock = true →
      ¬ ((planLocked 6).frame = c.frame ∧ (planLocked 6).len = c.len)) ∧
    ∀ z, (lockedAt 7).queue z = [] := by decide

/-- The planner at the boundary: the plan under construction is the one to commit; the L-changed marker;
none under construction; and a zone in DOSING whose second order the cut takes. -/
theorem witness_SwitchStageAndPlannerMayTakeABoundaryInEitherOrder_planner :
    boundary5.boundary = true ∧ boundary5.lChanged = false ∧ boundary5.lock = false ∧
    (planLocked 6).frame = boundary5.frame ∧ (planLocked 6).len = boundary5.len ∧
    State.reset.planner.building = none ∧
    (let q := [order 1 (.halting .aborted) 1 2, order 2 .queued 0 3]
     (dosingAt q).queue 0 = q ∧ ((dosingAt q).zone 0).state = .dosing ∧
     ((dosingAt q).groupOf 0).state = .closed) := by decide

theorem witness_DrivenCurrentsStayWithinThePlansLimits : (planLocked 5).sound ∧
    (lockedAt 2).governing 5 8 = some (planLocked 5) ∧ State.reset.governing 5 8 = none :=
  ⟨plan_parts 5 (by decide), by decide, by decide⟩

/-- A request of L, and an entry of which no slot takes a half-cycle, under limits of 0. -/
theorem witness_IdealSlotsDifferAndCurtailmentLasts : 8 ≤ 8 ∧
    (List.replicate 8 SlotSum.zero).length = 8 ∧
    ∀ (h : Nat) (x : SlotSum), (List.replicate 8 SlotSum.zero)[h]? = some x →
      h ∈ (entryOf 1 10 0).slots ∨
        Limits.zero.supply < x.supply + (entryOf 1 10 0).current ∨
        Limits.zero.group[(entryOf 1 10 0).group] <
          x.group[(entryOf 1 10 0).group] + (entryOf 1 10 0).current := by
  refine ⟨by decide, by decide, fun h x hx => ?_⟩
  rw [List.eq_of_mem_replicate (List.mem_of_getElem? hx)]
  exact .inr (.inl (by decide))

/-- The first half-cycle finds its ideal slot 0 held, and takes slot 1. -/
theorem witness_IdealSlotsDifferAndCurtailmentLasts_placed :
    (let e : Entry := { entryOf 2 10 0 with slots := [0] }
     let slot := fun j => (idealSlot 8 0 e.requested 0 + j) % 8
     1 < 8 ∧ (∀ j < 1, slot j ∈ e.slots) ∧ slot 1 ∉ e.slots ∧
     (List.replicate 8 SlotSum.zero)[slot 1]? = some .zero ∧
     ¬ limits410.supply < SlotSum.zero.supply + e.current ∧
     ¬ limits410.group[e.group] < SlotSum.zero.group[e.group] + e.current) := by decide

theorem witness_NextHandleIsTheFirstFreeOne : ∀ z, (State.reset.queue z).length ≤ 4 := by decide

/-- Seven records, eight of which the first is free to take, and eight of which none is. -/
theorem witness_NewRecordTakesAFreeSlotAndNumber :
    ((eight 0).drop 1).length < 8 ∧ (storing (eight 0)).store.next ≠ 0 ∧
    (eight 1).length = 8 ∧ eight 1 = [] ++ tripRec 40 .cleared true :: (eight 0).drop 1 ∧
    (tripRec 40 .cleared true).replaceable = true ∧
    (eight 0).length = 8 ∧ ∀ x ∈ eight 0, x.replaceable = false := by decide

/-! ### Witnesses: contactor inputs and timers -/

/-- STOP away from its debounced state since instant 300. -/
def stopAway (stop : Bool) : State :=
  { State.reset with gcc := { State.reset.gcc with
      stop := stop, rawStop := !stop, rawStopSince := some 300 } }

theorem witness_RawLinesStartAndEndTheDebounceCount :
    (stopAway true).gcc.rawStopSince = some 300 ∧ (stopAway true).gcc.stop = true := by decide

theorem witness_AuxChangeIsHandledByTheGroupsState :
    (∀ s ∈ [auxAway .opened false false none, auxAway .opened false true (some .stuckContact),
        auxAway .tripped false false none, auxAway .tripped false true (some .stuckContact),
        auxAway .closing true false (some .close), auxAway .opening false true (some .opening),
        auxAway .tripping false true (some .verify), auxAway .tripping false false (some .verify),
        auxAway .welded false true none], (s.group 0).rawAuxSince = some 300) ∧
    [auxAway .opened false false none, auxAway .opened false true (some .stuckContact),
      auxAway .tripped false false none, auxAway .tripped false true (some .stuckContact),
      auxAway .closing true false (some .close), auxAway .opening false true (some .opening),
      auxAway .tripping false true (some .verify), auxAway .tripping false false (some .verify),
      auxAway .welded false true none].map (fun s => ((s.group 0).state, !(s.group 0).aux)) =
    [(.opened, true), (.opened, false), (.tripped, true), (.tripped, false), (.closing, true),
      (.opening, false), (.tripping, false), (.tripping, true), (.welded, false)] ∧
    (auxAway .tripping false true (some .verify)).mtu.state ≠ .locked := by decide

/-- The aux of a TRIPPING G0 opens in LOCKED with no sample, and while its zone Z0 conducts in the last
one. -/
theorem witness_AuxChangeIsHandledByTheGroupsState_failing :
    ∀ c ∈ [none, some ({ frame := 5, h := 1, set := 1 } : Sample)],
    (let t := lockedAt 2
     let s := { t.setGroup 0 { groupRec .tripping false true false (some .verify) 0 with
                  rawAux := false, rawAuxSince := some 300 } with sup := { t.sup with sample := c } }
     (s.group 0).rawAuxSince = some 300 ∧ (s.group 0).state = .tripping ∧ (s.group 0).aux = true ∧
     s.mtu.state = .locked ∧ ∀ x, s.sup.sample = some x → ∃ z, (s.zone z).cfg.group = 0 ∧
       (s.zone z).configured = true ∧ inZones x.set z = true) := by
  intro c hc
  refine ⟨rfl, rfl, rfl, rfl, fun x hx => ⟨0, rfl, rfl, ?_⟩⟩
  simp only [List.mem_cons, List.not_mem_nil, or_false] at hc
  rcases hc with rfl | rfl
  · cases hx
  · cases hx; decide

theorem witness_CloseTimeoutAndCoilRelease :
    ((groupIn .closing true false false (some .close)).group 0).timer = some ⟨.close, 700⟩ ∧
    ((groupIn .opening true true true (some .release)).group 0).timer = some ⟨.release, 700⟩ := by
  decide

/-- A welding timer with the group's record held, and with none. -/
def weldAt (st : GroupState) (aux : Bool) (k : TimerKind) (record : Half) : State :=
  (storing [tripRec 42 .pending false]).setGroup 0 (groupRec st false aux false (some k) record)

theorem witness_ExpiredContactorTimersWeldTheGroup :
    (∀ s ∈ [weldAt .opening true .opening 0, weldAt .tripped true .stuckContact 0,
        weldAt .tripping true .verify 42, weldAt .tripping true .verify 0], s.storeSound ∧
      s.store.records.length < 7 ∧ s.reports.entries.length < 48) ∧
    [weldAt .opening true .opening 0, weldAt .tripped true .stuckContact 0,
      weldAt .tripping true .verify 42, weldAt .tripping true .verify 0,
      weldAt .tripping false .verify 42].map
        (fun s => ((s.group 0).timer, (s.group 0).aux, s.verified 0)) =
    [(some ⟨.opening, 700⟩, true, false), (some ⟨.stuckContact, 700⟩, true, false),
      (some ⟨.verify, 700⟩, true, false), (some ⟨.verify, 700⟩, true, false),
      (some ⟨.verify, 700⟩, false, true)] := by
  unfold State.storeSound; decide

theorem witness_StoppedTimersDoNotExpire :
    (∀ g k, (State.reset.group g).timer.map (·.kind) ≠ some k) ∧
    (∀ g, (State.reset.group g).rawAuxSince = none) ∧ State.reset.gcc.rawStopSince = none ∧
    State.reset.link.rx.gap = none ∧ State.reset.link.retransmitAt = none ∧
    State.reset.mtu.state ≠ .locked ∧ (mainsIn .locked false).mtu.midDue = none :=
  ⟨fun g k => by rw [show (State.reset.group g).timer = none by revert g; decide]; nofun,
    by decide⟩

/-- A CLOSED group at an asserted STOP, at TRIP_ALL, and as its aux opens. -/
theorem witness_StopTripAllAndDropoutTripTheGroups :
    (let s := (stopAway false).setGroup 0 (groupRec .closed true true false none 0)
     s.storeSound ∧ s.gcc.rawStopSince = some 300 ∧ s.gcc.stop = false ∧
     s.store.records.length < 8 ∧ s.reports.entries.length < 48 ∧
     (s.group 0).state = .closed) ∧
    (let s := groupIn .closed true true false none
     s.storeSound ∧ s.link.replyPending = false ∧ s.link.lastNum ≠ some hd0.num) ∧
    (let s := auxAway .closed true true none
     s.storeSound ∧ (s.group 0).rawAuxSince = some 300 ∧ (s.group 0).state = .closed ∧
     (s.group 0).aux = true) := by
  unfold State.storeSound; decide

/-! ### Witnesses: the report queue and the transmitter -/

/-- A queue of one report, `n` times, of which the first `k` are sent; the mask and the lost-pending count
are given. -/
def queueOf (n k : Nat) (r : Report) (mask : BitVec 6) (pend : Nat) : ReportQueue :=
  { ReportQueue.empty with
    entries := (List.range n).map fun i =>
      { report := r, seq := BitVec.ofNat 8 i, sent := decide (i < k), everSent := decide (i < k) },
    nextSeq := BitVec.ofNat 8 n, mask := mask, lostPending := pend, generated := BitVec.ofNat 32 n,
    alert := decide (0 < n) }

theorem witness_ReportEntersEvictsOrIsLost :
    (∀ q ∈ [queueOf 0 0 .supplyCleared 0 0, queueOf 47 0 .supplyCleared 63 0,
      queueOf 48 4 .supplyCleared 63 0, queueOf 48 0 (.zoneFaulted 0) 63 0], q.sound) ∧
    Report.supplyCleared.critical = false ∧ Report.supplyCleared.classBit = some 4 ∧
    (0 : BitVec 6).getLsbD 4 = false ∧ (63 : BitVec 6).getLsbD 4 = true ∧
    (Report.zoneFaulted 0).critical = true ∧
    (queueOf 47 0 .supplyCleared 63 0).entries.length < 48 ∧
    (queueOf 48 4 .supplyCleared 63 0).entries.length = 48 ∧
    (∃ a e, (queueOf 48 4 .supplyCleared 63 0).entries = a ++ e :: [] ∧
      e.report.critical = false ∧ e.everSent = false) ∧
    ∀ x ∈ (queueOf 48 0 (.zoneFaulted 0) 63 0).entries, x.report.critical = true := by
  refine ⟨?_, by decide, by decide, by decide, by decide, by decide, by decide, by decide,
    ⟨_, _, ((List.dropLast_append_getLast (by decide)).symm), by decide, by decide⟩, by decide⟩
  unfold ReportQueue.sound sentBefore
  decide +kernel

/-- Numbers 0 to 3 sent of 48, with reports lost: acknowledgements 0, 1, 4 and 5. -/
theorem witness_AcknowledgementRemovesTheOldestEntries :
    (queueOf 48 4 .supplyCleared 63 2).sound ∧ 0 < (queueOf 48 4 .supplyCleared 63 2).lostPending ∧
    ([0, 1, 4, 5].map fun a : Byte => (a - ((queueOf 48 4 .supplyCleared 63 2).nextSeq -
      BitVec.ofNat 8 (queueOf 48 4 .supplyCleared 63 2).entries.length)).toNat) = [0, 1, 4, 5] ∧
    (queueOf 48 4 .supplyCleared 63 2).entries.countP (fun e => e.everSent) = 4 := by
  refine ⟨?_, by decide, by decide, by decide⟩
  unfold ReportQueue.sound sentBefore
  decide +kernel

/-- A reply frame on TXD and an idle transmitter. -/
def sending (tx : Transmitter) (pend : Bool) (stored : Option Reply) (q : ReportQueue) : State :=
  { State.reset with
    reports := q,
    link := { State.reset.link with
      tx := tx, replyPending := pend, stored := stored, lastNum := stored.map (·.num),
      retransmitAt := some 900 } }

def aReply : Reply := { num := 3, type := 0x41, result := .ok, fields := [] }

theorem witness_FrameEndStartsTheRetransmitTimerAndExpiryReturnsReports :
    State.reset.link.tx = .report startupFrame ∧
    (sending (.reply [1]) false none .empty).link.tx = .reply [1] ∧
    (sending .idle false none .empty).link.tx = .idle ∧
    (sending .idle false none .empty).link.retransmitAt = some 900 :=
  ⟨rfl, rfl, rfl, rfl⟩

/-- A busy transmitter; an idle one with a reply pending; with three of five reports sent; with four sent;
and with all sent. -/
theorem witness_TransmitterTakesTheReplyThenTheOldestReport :
    (sending (.reply [1]) false none .empty).link.tx ≠ .idle ∧
    ((sending .idle true (some aReply) .empty).link.replyPending = true ∧
      (sending .idle true (some aReply) .empty).link.stored = some aReply) ∧
    ((queueOf 5 3 .supplyCleared 63 0).entries.countP (fun e => e.sent) < 4 ∧
      ∃ a e b, (queueOf 5 3 .supplyCleared 63 0).entries = a ++ e :: b ∧
        (∀ x ∈ a, x.sent = true) ∧ e.sent = false) ∧
    4 ≤ (queueOf 5 4 .supplyCleared 63 0).entries.countP (fun e => e.sent) ∧
    ∀ e ∈ (queueOf 3 3 .supplyCleared 63 0).entries, e.sent = true := by
  refine ⟨by decide, by decide, ⟨by decide, (queueOf 5 3 .supplyCleared 63 0).entries.take 3,
    (queueOf 5 3 .supplyCleared 63 0).entries[3]'(by decide),
    (queueOf 5 3 .supplyCleared 63 0).entries.drop 4, by decide, by decide, by decide⟩, by decide,
    by decide⟩

/-! ### Witnesses: the receiver -/

/-- A receiver with its timer running to 500. -/
def rxIn (st : RxState) (bytes : List Byte) : State :=
  State.reset.setRx { state := st, bytes := bytes, gap := some 500 }

/-- LEN 2, 252; NOP's frame but its last byte, and the same with CTRL 0x10. -/
theorem witness_ReceiverAbandonsBadFrames :
    State.reset.link.rx = .idle ∧ (rxIn .header [0xC5]).link.rx.state = .header ∧
    (rxIn .header [0xC5]).link.rx.gap = some 500 ∧ max (rxIn .header [0xC5]).now 500 ≤ 500 ∧
    500 < max (rxIn .header [0xC5]).now 501 ∧
    ((2 : Byte).toNat < 3 ∧ 251 < (252 : Byte).toNat) ∧
    (∀ c ∈ [(1 : Byte), 0x10],
      (let s := rxIn .check ((frameBytes c 0 1 []).dropLast)
       s.link.rx.state = .check ∧ (3 ≤ s.link.rx.len ∧ s.link.rx.len ≤ 251) ∧
       s.link.rx.bytes.head? = some syncByte ∧ s.link.rx.len + 2 ≤ s.link.rx.bytes.length ∧
       s.link.rx.bytes.length + 1 = s.link.rx.len + 4)) ∧
    (let good := frameBytes 0x10 0 1 []
     leBytes 2 (crc16 ((good.drop 1).dropLast.dropLast)).toNat = good.drop 5 ∧
     16 ≤ (good.getD 2 0).toNat) ∧
    (let bad := (frameBytes 1 0 1 []).dropLast ++ [0]
     leBytes 2 (crc16 ((bad.drop 1).dropLast.dropLast)).toNat ≠ bad.drop 5) := by
  decide +kernel

/-- The seven bytes of a NOP frame, 5 ms apart. -/
def nopTimes : List Nat := [500, 1000, 1500, 2000, 2500, 3000]

theorem witness_ValidFrameIsServedAtItsLastByte : ([] : List Byte).length ≤ 248 ∧
    State.reset.link.rx = .idle ∧
    nopTimes.length + 1 = (frameBytes ((1 : BitVec 4).zeroExtend 8) 0 1 []).length ∧
    inStep 0 nopTimes ∧ nopTimes.getLast? = some 3000 :=
  ⟨by decide, rfl, rfl, by simp [inStep, nopTimes, Config.byteGap], rfl⟩

theorem witness_RequestCommandIsItsFrameReceived :
    (Instr.nop (hdAt 3000)).requestOf = some (hdAt 3000, .nop) ∧ State.reset.link.rx = .idle ∧
    nopTimes.length + 1 = (requestFrame (hdAt 3000) .nop).length ∧ inStep 0 nopTimes ∧
    nopTimes.getLast? = some (hdAt 3000).time :=
  ⟨rfl, rfl, rfl, by simp [inStep, nopTimes, Config.byteGap], rfl⟩

/-! ### Witnesses: requests -/

theorem accepts_of {s : State} (h : s.link = State.reset.link) : s.accepts hd0 := by
  unfold State.accepts; rw [h]; exact ⟨rfl, by decide⟩

theorem accepts_reset : State.reset.accepts hd0 := accepts_of rfl

/-- Types 0x00 and 0x23, a NOP of one byte, and SET_FRAME of 7 and of 129. -/
theorem witness_ValidationRefusesUnknownTypesLengthsAndRanges : State.reset.accepts hd0 ∧
    (∀ r : Request, r.typeCode ≠ 0 ∧ r.typeCode ≠ 0x23) ∧
    ([0] : List Byte).length ≠ Request.nop.payload.length ∧
    parseRequest 0 [] = .error .unknownRequest ∧ parseRequest 1 [0] = .error .badLength ∧
    (Instr.setFrame hd0 7).requestOf = some (hd0, .setFrame 7) ∧
    ¬ (Request.setFrame 7).fieldsInRange 32 ∧ ¬ (Request.setFrame 129).fieldsInRange 32 :=
  ⟨accepts_reset, fun r => by cases r <;> simp [Request.typeCode], by decide, rfl, rfl, rfl,
    by simp [Request.fieldsInRange], by simp [Request.fieldsInRange]⟩

theorem witness_BusyAndRepeatedRequestsAreNotExecuted :
    (Instr.nop hd0).requestOf = some (hd0, .nop) ∧
    (sending (.report [1]) true (some aReply) .empty).link.replyPending = true ∧
    (sending (.report [1]) true (some aReply) .empty).link.tx ≠ .idle ∧
    (let s := sending (.report [1]) false (some { aReply with num := 1 }) .empty
     s.link.replyPending = false ∧ s.link.lastNum = some hd0.num) ∧ Request.nop ≠ .linkSync := by
  decide

theorem witness_LinkSyncEmptiesTheReportQueue : State.reset.link.replyPending = false := rfl

/-- The bounds of every setting. -/
theorem witness_SettingRequestsWriteTheirSettings : State.reset.accepts hd0 ∧
    (∀ i ∈ [(10 : Half), 500], 10 ≤ i.toNat ∧ i.toNat ≤ 500) ∧
    (4000 : Half).toNat ≤ 4000 ∧ (2000 : Half).toNat ≤ 2000 ∧
    ((15 : Byte).toNat ≤ 15 ∧ (500 : Half).toNat ≤ 500 ∧ (50 : Byte).toNat ≤ 50 ∧
      ∀ m ∈ [(1 : Byte), 255], 1 ≤ m.toNat) ∧
    ∀ t ∈ [(20 : Half), 1000], 20 ≤ t.toNat ∧ t.toNat ≤ 1000 :=
  ⟨accepts_reset, by simp⟩

theorem witness_QueriesOfThePartAnswerFromTheState : State.reset.accepts hd0 := accepts_reset

/-- Record 41 read by its number, the oldest unreleased one by 0, and records that are not held. -/
theorem witness_QueriesOfZonesPlansAndRecordsAnswerFromTheState :
    (storing (eight 1)).accepts hd0 ∧ State.reset.accepts hd0 ∧
    (storing (eight 1)).store.records =
      [tripRec 40 .cleared true] ++ tripRec 41 .cleared false :: (eight 1).drop 2 ∧
    (tripRec 41 .cleared false).number = 41 ∧ (tripRec 41 .cleared false).released = false ∧
    (∀ x ∈ [tripRec 40 .cleared true], x.number ≠ 41 ∧ x.released ≠ false) ∧
    (∀ x ∈ (storing (eight 8)).store.records, x.released = true ∧ x.number ≠ 99) :=
  ⟨accepts_of rfl, accepts_reset, by decide⟩

/-- L of 8 and of 128; a group away from OPEN; a zone in DEMAND; neither. -/
theorem witness_SetFrameNeedsEveryGroupOpenAndNoZoneActive : State.reset.accepts hd0 ∧
    (groupIn .closed true true false none).accepts hd0 ∧ (zoneIn .demand 3 1).accepts hd0 ∧
    (∀ l ∈ [(8 : Byte), 128], 8 ≤ l.toNat ∧ l.toNat ≤ 128) ∧
    ((groupIn .closed true true false none).group 0).state ≠ .opened ∧
    ((∀ g, ((zoneIn .demand 3 1).group g).state = .opened) ∧
      ((zoneIn .demand 3 1).zone 0).state = .demand) ∧
    (∀ g, (State.reset.group g).state = .opened) ∧
    ∀ z, (State.reset.zone z).state ≠ .demand ∧ (State.reset.zone z).state ≠ .dosing :=
  ⟨accepts_reset, accepts_of rfl, accepts_of rfl, by decide⟩

/-- Every zone state, with the bounds of CONFIG_ZONE, and a DOSING zone with a HALTING head. -/
theorem witness_ConfigEnableDisableAndClearAZone :
    (∀ st, (zoneIn st 0 0).accepts hd0 ∧ ((zoneIn st 0 0).zone 0).state = st) ∧
    (∀ c ∈ [(1 : Half), 500], 1 ≤ c.toNat ∧ c.toNat ≤ 500) ∧ (127 : Byte).toNat ≤ 127 ∧
    (128 : Byte).toNat ≤ 128 ∧ 1 ≤ (1 : Byte).toNat ∧
    (let s := dosing [order 1 (.halting .aborted) 1 2, order 2 .queued 0 3]
     ∀ o ∈ (s.queue 0).tail, o.isHalting = false) :=
  ⟨fun _ => ⟨accepts_of rfl, rfl⟩, by simp, by simp, by simp, by simp, by decide⟩

theorem witness_SetDemandStartsAndEndsAZonesDemand :
    (∀ st, (zoneIn st 0 0).accepts hd0 ∧ ((zoneIn st 0 0).zone 0).state = st) ∧
    ∀ d ∈ [(0 : Byte), 1, 32], d.toNat ≤ State.reset.mtu.len :=
  ⟨fun _ => ⟨accepts_of rfl, rfl⟩, by decide⟩

/-- A zone that takes no order; a full queue; a tag that is held; three orders and a new tag. -/
theorem witness_QueueOrderAppendsAnOrder :
    (∀ st, (zoneIn st 0 0).accepts hd0 ∧ ((zoneIn st 0 0).zone 0).state = st) ∧
    (dosing []).accepts hd0 ∧ ((1 : Half) ≠ 0 ∧ (65535 : Half) ≠ 0) ∧
    (∀ c ∈ [(1 : Byte), 128], 1 ≤ c.toNat ∧ c.toNat ≤ 128) ∧
    (let four := [order 1 .active 1 2, order 2 .queued 0 3, order 3 .queued 0 3, order 4 .queued 0 3]
     4 ≤ ((dosing four).queue 0).length ∧
     (let three := four.dropLast
      ((dosing three).queue 0).length < 4 ∧ (∃ o ∈ (dosing three).queue 0, o.tag = 3) ∧
      ¬ ∃ o ∈ (dosing three).queue 0, o.tag = 65535)) :=
  ⟨fun _ => ⟨accepts_of rfl, rfl⟩, accepts_of rfl, by decide⟩

/-- The head in each state, an order behind it, and a tag that is not held. -/
theorem witness_AbortOrderRemovesOrHalts : (dosing []).accepts hd0 ∧ (1 : Half) ≠ 0 ∧
    (∀ o ∈ [order 1 (.halting .aborted) 1 2, order 1 .queued 0 3, order 1 .planned 0 3,
        order 1 .active 1 2],
      (dosing [o, order 2 .queued 0 3]).queue 0 = o :: [order 2 .queued 0 3] ∧ o.tag = 1) ∧
    (dosing [order 1 .active 1 2, order 2 .queued 0 3]).queue 0 =
      [order 1 .active 1 2] ++ order 2 .queued 0 3 :: [] ∧
    (∀ x ∈ [order 1 .active 1 2] ++ ([] : List Order), x.tag ≠ 2) ∧
    ∀ o ∈ (dosing [order 1 .active 1 2]).queue 0, o.tag ≠ 3 :=
  ⟨accepts_of rfl, by decide⟩

theorem witness_CloseGroupAndAckTrip : State.reset.accepts hd0 := accepts_reset

/-- Every group state that OPEN_GROUP tells apart, and the mains LOCKED and not. -/
theorem witness_OpenGroupWithdrawsThenReleasesTheCoil :
    (lockedAt 2).accepts hd0 ∧ ((lockedAt 2).group 0).state = .closed ∧
    ((lockedAt 2).group 0).aux = true ∧ (lockedAt 2).mtu.state = .locked ∧
    (∀ st aux, (groupIn st true aux false none).accepts hd0 ∧
      ((groupIn st true aux false none).group 0).state = st ∧
      ((groupIn st true aux false none).group 0).aux = aux ∧
      (groupIn st true aux false none).mtu.state ≠ .locked) :=
  ⟨accepts_of rfl, rfl, rfl, rfl, fun _ _ => ⟨accepts_of rfl, rfl, rfl, MainsState.noConfusion⟩⟩

/-- Selectors 0, 23 and 255; a record that is not held, a pending one and a resolved one. -/
theorem witness_ClearTallyAndReleaseTripRecord : State.reset.accepts hd0 ∧
    (∀ x ∈ [(0 : Byte), 23, 255], x.toNat ≤ 23 ∨ x = 255) ∧
    (∀ r ∈ (storing (eight 0)).store.records, r.number ≠ 99) ∧ (storing (eight 0)).accepts hd0 ∧
    (∀ o ∈ [GroupOutcome.pending, .cleared],
      (storing [tripRec 42 o false]).store.records = [] ++ tripRec 42 o false :: [] ∧
      (tripRec 42 o false).number ≠ 0) ∧
    (∃ g : GroupId, (tripRec 42 .pending false).outcomes[g] = .pending) ∧
    ∀ g : GroupId, (tripRec 42 .cleared false).outcomes[g] ≠ .pending :=
  ⟨accepts_reset, by decide, by decide, accepts_of rfl, by decide, by decide, by decide⟩

/-! ### Steps on the spec's own values -/

/-- Table 8-4, trips A to C: the numbers returned and the records held. -/
theorem test_full_trip_store :
    let r := tripRec 0 .pending false
    let a := TripStore.create { records := eight 2, next := 48, lost := 0 } r
    let b := a.1.create r
    let c := b.1.create r
    a.2 = (48, some 40) ∧ b.2 = (49, some 41) ∧ c.2 = (0, none) ∧ c.1.next = 50 ∧ c.1.lost = 1 ∧
    c.1.records.map (·.number) = [42, 43, 44, 45, 46, 47, 48, 49] := by decide

/-- Table 9-4, rows 2 to 4 in kind: a drop, an eviction, then REPORTS_LOST (2) as 48 after an
acknowledgement of 2. -/
theorem test_reports_lost :
    let q := ((queueOf 48 4 .supplyCleared 63 0).offer .supplyCleared).offer (.zoneFaulted 5)
    let r := q.removeOldest 2
    q.lostPending = 2 ∧ q.nextSeq = 48 ∧ q.entries.length = 48 ∧ q.generated = 50 ∧ q.lost = 2 ∧
    r.entries.length = 47 ∧ r.nextSeq = 49 ∧ r.generated = 51 ∧ r.acknowledged = 2 ∧
    r.lostPending = 0 ∧ r.entries.getLast?.map (·.report) = some (.reportsLost 2) := by
  decide +kernel

/-- R187: NOP as the first command after reset is taken, and its reply waits for STARTUP's frame. -/
theorem test_nop_after_reset :
    (match step { State.reset with pending := [.nop hd0] } with
      | .next t => decide (t.link.stored = some { num := 1, type := 0x41, result := .ok, fields := [] })
          && t.link.replyPending
      | _ => false) = true := by decide

/-- Table 11-2 and R192: QUERY_ORDERS of zone 24 is refused with RANGE and no fields. -/
theorem test_zone_24_is_out_of_range :
    (match step { State.reset with pending := [.queryOrders hd0 24] } with
      | .next t => decide (t.link.stored =
          some { num := 1, type := 0x52, result := .range, fields := [] })
      | _ => false) = true := by decide

/-- R54, R57: an aborted ACTIVE head becomes HALTING, and stays the head. -/
theorem test_abort_of_an_active_head :
    (match exec (.abortOrder hd0 0 1) (dosing [order 1 .active 1 2, order 2 .queued 0 3]) with
      | .next t => decide ((t.queue 0).map (·.state) = [.halting .aborted, .queued])
      | _ => false) = true := by decide

/-- R141: ACK_TRIP on a TRIPPED group. -/
theorem test_ack_trip :
    (match exec (.ackTrip hd0 0) (groupIn .tripped false false false none) with
      | .next t => decide ((t.group 0).state = .opened)
      | _ => false) = true := by decide

/-- R182 and section 9.10: with numbers 0 to 3 sent, 4 unsent and TXD idle, the acknowledgement 2 that a NOP
carries lets the transmitter take 4, and the NOP's reply waits for that frame's end. -/
theorem test_acknowledgement_lets_an_idle_transmitter_choose :
    (match exec (.nop { time := 0, num := 1, ack := 2 })
        (sending .idle false none (queueOf 5 4 .supplyCleared 63 0)) with
      | .next t => decide (t.link.tx = .report (frameBytes 0x40 4 0x8F []) ∧
          t.link.replyPending = true ∧ t.reports.entries.map (·.seq) = [2, 3, 4] ∧
          t.reports.entries.all (·.sent) = true)
      | _ => false) = true := by decide +kernel

/-- R2, R8: in LOCKED with the reference time 90.00 ms, at 140.00 ms, an edge that carries 100.00 ms is taken
at 140.00 ms: the window has run out twice, and the edge ends LOST. -/
theorem test_overdue_edge_is_not_dropped :
    (match exec (.zxEdge 10000 []) { mainsIn .locked false with
        now := 14000, mtu := { (mainsIn .locked false).mtu with refTime := some 9000 } } with
      | .next t => decide (t.mtu.state = .searching ∧ t.mtu.refTime = some 14000 ∧ t.mtu.coasts = 1)
      | _ => false) = true := by decide +kernel

end Sys2Proof.Tests
end

section
/-! SUPPORT. The mains timing unit: the interval history and the period, when an edge is taken at once, and what
each kind of edge makes of the state. Settles O15 and O16. -/

namespace Sys2Proof.Machine

/-! ### The interval history and the period (R6) -/

/-- R6: while the history is not full an interval is appended to it. -/
theorem appendInterval_of_room {hist : List Nat} (i : Nat) (h : hist.length < Config.lockRun) :
    appendInterval hist i = hist ++ [i] := by
  have hz : hist.length + 1 - Config.lockRun = 0 := by omega
  simp [appendInterval, hz]

/-- R6: in a full history the oldest interval leaves. -/
theorem appendInterval_of_full {hist : List Nat} (i : Nat) (h : hist.length = Config.lockRun) :
    appendInterval hist i = hist.drop 1 ++ [i] := by
  have hd : hist.length + 1 - Config.lockRun = 1 := by omega
  have hl : 1 ≤ hist.length := by rw [h]; decide
  simp [appendInterval, hd, List.drop_append, Nat.sub_eq_zero_of_le hl]

theorem periodOf_of_ne_nil {hist : List Nat} (h : hist ≠ []) :
    periodOf hist = hist.sum / hist.length := by
  cases hist with
  | nil => exact absurd rfl h
  | cons a l => rfl

@[simp] theorem periodOf_append (hist : List Nat) (i : Nat) :
    periodOf (hist ++ [i]) = (hist.sum + i) / (hist.length + 1) := by
  rw [periodOf_of_ne_nil (by simp)]
  simp

theorem periodOf_of_full {hist : List Nat} (h : hist.length = Config.lockRun) :
    periodOf hist = hist.sum / 8 := by
  rw [periodOf_of_ne_nil (by rintro rfl; simp [Config.lockRun] at h), h]
  rfl

/-! ### Edges -/

/-- R8: without LOCKED there is no window. -/
theorem windowOver_of_not_locked {s : State} (t : Nat) (h : s.mtu.state ≠ .locked) :
    s.windowOver t = false := by
  unfold State.windowOver State.isLocked
  split <;> simp [h]

/-- R8: in LOCKED the window is over when more than 12.5 ms have passed since the reference time. -/
theorem windowOver_iff {s : State} {r : Nat} (t : Nat) (h : s.mtu.refTime = some r) :
    s.windowOver t = true ↔ s.mtu.state = .locked ∧ r + 1250 < t := by
  have hw : s.windowOver t = true ↔ s.mtu.state = .locked ∧ r + Config.window < t := by
    simp [State.windowOver, State.isLocked, h]
  exact hw

/-- An edge that finds no window overdue is classed at once, and the transmitter then chooses. -/
theorem exec_zxEdge_of_not_over {s : State} {time : Nat} (order : List Taker)
    (h : s.windowOver (max s.now time) = false) :
    exec (.zxEdge time order) s = .next (txChoose (edge order (s.atTime time))) := by
  rw [← edgeAt_of_not_over order time s h]
  rfl

/-- R2: an edge without a reference time, outside LOST. -/
theorem edge_of_no_ref {s : State} (order : List Taker) (hl : s.mtu.state ≠ .lost)
    (hr : s.mtu.refTime = none) : edge order s = referenceEdge s := by
  unfold edge
  split
  · contradiction
  · simp [hr]

/-- R2: an edge with a reference time, outside LOST, is classed by its interval. -/
theorem edge_of_ref {s : State} {r : Nat} (order : List Taker) (hl : s.mtu.state ≠ .lost)
    (hr : s.mtu.refTime = some r) : edge order s = classedEdge order r s := by
  unfold edge
  split
  · contradiction
  · simp [hr]

/-- R12: an edge in LOST. -/
theorem edge_of_lost {s : State} (order : List Taker) (hl : s.mtu.state = .lost) :
    edge order s = endOfLost s := by
  simp [edge, hl]

/-- R3: an interval below 7.0 ms is a glitch. -/
theorem classedEdge_of_short {s : State} {r : Nat} (order : List Taker) (h : s.now - r < 700) :
    classedEdge order r s = glitch s := by
  simp [classedEdge, Config.shortestValid, h]

/-- R4: a valid interval in SEARCHING. -/
theorem classedEdge_of_valid_searching {s : State} {r : Nat} (order : List Taker)
    (hs : s.mtu.state = .searching) (h1 : 700 ≤ s.now - r) (h2 : s.now - r ≤ 1250) :
    classedEdge order r s = searchEdge order (s.now - r) s := by
  have hn : ¬ s.now - r < Config.shortestValid := Nat.not_lt.mpr h1
  have hw : s.now - r ≤ Config.window := h2
  simp [classedEdge, hn, hw, State.isLocked, hs]

/-- R7: a valid interval in LOCKED. -/
theorem classedEdge_of_valid_locked {s : State} {r : Nat} (order : List Taker)
    (hs : s.mtu.state = .locked) (h1 : 700 ≤ s.now - r) (h2 : s.now - r ≤ 1250) :
    classedEdge order r s = realCrossing order (s.now - r) s := by
  have hn : ¬ s.now - r < Config.shortestValid := Nat.not_lt.mpr h1
  have hw : s.now - r ≤ Config.window := h2
  simp [classedEdge, hn, hw, State.isLocked, hs]

/-- R4: a long interval in SEARCHING. -/
theorem classedEdge_of_long {s : State} {r : Nat} (order : List Taker)
    (hs : s.mtu.state = .searching) (h : 1250 < s.now - r) :
    classedEdge order r s = longEdge s := by
  have hn : ¬ s.now - r < Config.shortestValid := by simp only [Config.shortestValid]; omega
  have hw : ¬ s.now - r ≤ Config.window := Nat.not_le.mpr h
  simp [classedEdge, hn, hw, State.isLocked, hs]

/-- An edge within the window of its reference time finds no window overdue. -/
theorem windowOver_of_within {s : State} {r T : Nat} (hr : s.mtu.refTime = some r)
    (h : T - r ≤ 1250) : s.windowOver T = false := by
  rw [Bool.eq_false_iff, Ne, windowOver_iff T hr]
  omega

/-- R4: a valid edge in SEARCHING that does not complete the run. -/
theorem searchEdge_of_run_lt {s : State} (order : List Taker) (i : Nat)
    (h : s.mtu.run + 1 < Config.lockRun) :
    searchEdge order i s = { s with mtu := { s.mtu.withHistory (appendInterval s.mtu.history i) with
      run := s.mtu.run + 1, refTime := some s.now } } := by
  exact if_neg (Nat.not_le.mpr h)

/-- R5: a valid edge in SEARCHING that completes the run. -/
theorem searchEdge_of_run_eq {s : State} (order : List Taker) (i : Nat)
    (h : s.mtu.run + 1 = Config.lockRun) :
    searchEdge order i s = lockMains order { s with mtu :=
      { s.mtu.withHistory (appendInterval s.mtu.history i) with
        run := s.mtu.run + 1, refTime := some s.now } } := by
  exact if_pos (Nat.le_of_eq h.symm)

/-- Settles O15: within 7.0 ms of the reference time no window is overdue, and the edge is a glitch. -/
theorem glitchOnlyRaisesItsCount : Obligations.GlitchOnlyRaisesItsCount := by
  intro time r order s hl hr h
  rw [exec_zxEdge_of_not_over order (windowOver_of_within hr (by omega)),
    edge_of_ref order (by simpa using hl) (by simpa using hr), classedEdge_of_short order (by simpa using h)]
  rfl

/-- Settles O16: outside LOCKED no window runs, and each kind of edge has its equation. -/
theorem edgesOutsideLockCountTowardsLock : Obligations.EdgesOutsideLockCountTowardsLock := by
  have searching : ∀ {s : State}, s.mtu.state = .searching →
      s.mtu.state ≠ .locked ∧ s.mtu.state ≠ .lost := fun h => by simp [h]
  refine ⟨?reference, ?valid, ?long, ?endOfLost⟩
  case reference =>
    intro time order s hs hr
    obtain ⟨hk, hl⟩ := searching hs
    rw [exec_zxEdge_of_not_over order (windowOver_of_not_locked _ hk),
      edge_of_no_ref order (by simpa using hl) (by simpa using hr)]
    rfl
  case valid =>
    intro time r order s hm hs hr h1 h2 hrun
    obtain ⟨hk, hl⟩ := searching hs
    have hlen : s.mtu.history.length < Config.lockRun := by
      obtain ⟨-, -, -, -, -, -, -, hsearch, -⟩ := hm
      obtain ⟨-, hrl, hlt⟩ := hsearch hs
      omega
    rw [exec_zxEdge_of_not_over order (windowOver_of_not_locked _ hk),
      edge_of_ref order (by simpa using hl) (by simpa using hr),
      classedEdge_of_valid_searching order (by simpa using hs) (by simpa using h1) (by simpa using h2),
      searchEdge_of_run_lt (s := s.atTime time) order _ hrun]
    simp only [Mtu.withHistory, atTime_keeps, atTime_now, appendInterval_of_room _ hlen, periodOf_append]
  case long =>
    intro time r order s hs hr h
    obtain ⟨hk, hl⟩ := searching hs
    rw [exec_zxEdge_of_not_over order (windowOver_of_not_locked _ hk),
      edge_of_ref order (by simpa using hl) (by simpa using hr),
      classedEdge_of_long order (by simpa using hs) (by simpa using h)]
    rfl
  case endOfLost =>
    intro time order s hs
    rw [exec_zxEdge_of_not_over order (windowOver_of_not_locked _ (by simp [hs])),
      edge_of_lost order (by simpa using hs)]
    rfl

end Sys2Proof.Machine
end

section
/-! SUPPORT. Every command keeps the mains timing unit sound: what each change of the unit keeps, then which
commands make which change. Settles O5. -/

namespace Sys2Proof.Machine

/-! ### The changes of the mains timing unit -/

/-- R10: an advance writes the half-cycle, and at a frame's end the frame and L. -/
theorem advance_eq (m : Mtu) : m.advance = { m with
    h := if m.h + 1 < m.len then m.h + 1 else 0,
    frame := if m.h + 1 < m.len then m.frame else m.frame + 1,
    len := if m.h + 1 < m.len then m.len else m.pendingLen } := by
  unfold Mtu.advance
  split <;> rfl

namespace Mtu

variable {m : Mtu}

theorem sound_reset : Mtu.reset.sound := by
  simp [Mtu.sound, Mtu.reset, periodOf, Config.lockRun]

theorem sound.midTaken (hm : m.sound) : { m with midDue := none }.sound := by
  obtain ⟨hlen, hints, hp, hL, hpL, hg, hc, hse, hlk, hlo, hnl⟩ := hm
  refine ⟨hlen, hints, hp, hL, hpL, hg, hc, hse, hlk, hlo, fun h => ?_⟩
  obtain ⟨hcoast, -, hlen⟩ := hnl h
  exact ⟨hcoast, rfl, hlen⟩

theorem sound.glitch (hm : m.sound) (n : Nat) :
    { m with glitches := satAdd max16 m.glitches n }.sound := by
  obtain ⟨hlen, hints, hp, hL, hpL, -, hrest⟩ := hm
  exact ⟨hlen, hints, hp, hL, hpL, satAdd_le _ _ _, hrest⟩

theorem sound.coasts (hm : m.sound) (n : Nat) :
    { m with coasts := satAdd max16 m.coasts n }.sound := by
  obtain ⟨hlen, hints, hp, hL, hpL, hg, -, hrest⟩ := hm
  exact ⟨hlen, hints, hp, hL, hpL, hg, satAdd_le _ _ _, hrest⟩

theorem sound.reference (hm : m.sound) (hl : m.state ≠ .lost) (now : Nat) :
    { m with refTime := some now }.sound := by
  obtain ⟨hlen, hints, hp, hL, hpL, hg, hc, hse, hlk, -, hnl⟩ := hm
  refine ⟨hlen, hints, hp, hL, hpL, hg, hc, hse, fun h => ?_, fun h => absurd h hl, hnl⟩
  obtain ⟨hfull, hrun, hh, -⟩ := hlk h
  exact ⟨hfull, hrun, hh, rfl⟩

/-- R4, R12: an emptied history in SEARCHING. -/
theorem sound.restart (hm : m.sound) (hl : m.state ≠ .locked) (now : Nat) :
    { m.withHistory [] with state := .searching, run := 0, h := 0, refTime := some now }.sound := by
  obtain ⟨-, -, -, hL, hpL, hg, hc, -, -, -, hnl⟩ := hm
  refine ⟨Nat.zero_le _, by simp [Mtu.withHistory], rfl, hL, hpL, hg, hc,
    fun _ => ⟨rfl, rfl, Nat.zero_lt_succ 7⟩, ?_, ?_, fun _ => hnl hl⟩ <;> intro h <;> cases h

/-- R6: a valid interval enters the history. -/
theorem appended_intervals (hm : m.sound) {i : Nat} (h1 : 700 ≤ i) (h2 : i ≤ 1250) :
    (appendInterval m.history i).length ≤ Config.lockRun ∧
    ∀ j ∈ appendInterval m.history i, Config.shortestValid ≤ j ∧ j ≤ Config.window := by
  obtain ⟨hlen, hints, -⟩ := hm
  refine ⟨by simp [appendInterval]; omega, fun j hj => ?_⟩
  rcases List.mem_append.mp (List.mem_of_mem_drop hj) with hj | hj
  · exact hints j hj
  · obtain rfl := List.mem_singleton.mp hj
    exact ⟨h1, h2⟩

/-- R4: a valid interval in SEARCHING that does not complete the run. -/
theorem sound.counted (hm : m.sound) (hs : m.state = .searching) {i : Nat} (h1 : 700 ≤ i)
    (h2 : i ≤ 1250) (hrun : m.run + 1 < Config.lockRun) (now : Nat) :
    { m.withHistory (appendInterval m.history i) with run := m.run + 1, refTime := some now }.sound := by
  obtain ⟨hlen', hints'⟩ := appended_intervals hm h1 h2
  obtain ⟨-, -, -, hL, hpL, hg, hc, hse, -, -, hnl⟩ := hm
  obtain ⟨hh, hr, -⟩ := hse hs
  have happ : appendInterval m.history i = m.history ++ [i] :=
    appendInterval_of_room i (by omega)
  refine ⟨hlen', hints', rfl, hL, hpL, hg, hc, fun _ => ⟨hh, ?_, hrun⟩, ?_, ?_, hnl⟩
  · simp [Mtu.withHistory, happ, hr]
  · intro h; rw [show m.state = .locked from h] at hs; cases hs
  · intro h; rw [show m.state = .lost from h] at hs; cases hs

/-- R5: the run is complete and the mains locks. -/
theorem sound.lock (hm : m.sound) (hs : m.state = .searching) {i : Nat} (h1 : 700 ≤ i)
    (h2 : i ≤ 1250) (hrun : m.run + 1 = Config.lockRun) (now : Nat) (mid : Option Nat) (f : BitVec 32) :
    { m.withHistory (appendInterval m.history i) with
      state := .locked, run := 0, coast := false, h := 0, len := m.pendingLen, frame := f,
      refTime := some now, midDue := mid }.sound := by
  obtain ⟨hlen', hints'⟩ := appended_intervals hm h1 h2
  obtain ⟨-, -, -, -, hpL, hg, hc, hse, -, -, -⟩ := hm
  obtain ⟨-, hr, hlt⟩ := hse hs
  have happ : appendInterval m.history i = m.history ++ [i] :=
    appendInterval_of_room i (by omega)
  refine ⟨hlen', hints', rfl, hpL, hpL, hg, hc, ?_, fun _ => ⟨?_, rfl, ?_, rfl⟩, ?_, ?_⟩
  · intro h; cases h
  · simp only [Mtu.withHistory, happ, List.length_append, List.length_singleton]; omega
  · exact Nat.lt_of_lt_of_le (Nat.zero_lt_succ 7) hpL.1
  · intro h; cases h
  · intro h; exact absurd rfl h

/-- R7, R8: a crossing in LOCKED, with the history as it is. -/
theorem sound.cross (hm : m.sound) (hs : m.state = .locked) (ref : Nat) (syn : Bool)
    (mid : Option Nat) :
    { m.advance with refTime := some ref, coast := syn, midDue := mid }.sound := by
  obtain ⟨hlen, hints, hp, hL, hpL, hg, hc, -, hlk, -, -⟩ := hm
  obtain ⟨hfull, hr, -, -⟩ := hlk hs
  have hstate : m.advance.state = .locked := by rw [advance_eq]; exact hs
  have hL' : 8 ≤ m.advance.len ∧ m.advance.len ≤ 128 := by
    rw [advance_eq]; dsimp only; split <;> assumption
  have hh' : m.advance.h < m.advance.len := by
    rw [advance_eq]; dsimp only; split <;> omega
  rw [advance_eq] at *
  refine ⟨hlen, hints, hp, hL', hpL, hg, hc, ?_, fun _ => ⟨hfull, hr, hh', rfl⟩, ?_, ?_⟩
  · intro h; rw [show m.state = .searching from h] at hs; cases hs
  · intro h; rw [show m.state = .lost from h] at hs; cases hs
  · intro h; exact absurd hstate h

/-- R6, R7: a valid interval in LOCKED. -/
theorem sound.measured (hm : m.sound) (hs : m.state = .locked) {i : Nat} (h1 : 700 ≤ i)
    (h2 : i ≤ 1250) : (m.withHistory (appendInterval m.history i)).sound := by
  obtain ⟨hlen', hints'⟩ := appended_intervals hm h1 h2
  obtain ⟨-, -, -, hL, hpL, hg, hc, -, hlk, -, -⟩ := hm
  obtain ⟨hfull, hr, hh, href⟩ := hlk hs
  refine ⟨hlen', hints', rfl, hL, hpL, hg, hc, ?_, fun _ => ⟨?_, hr, hh, href⟩, ?_, ?_⟩
  · intro h; rw [show m.state = .searching from h] at hs; cases hs
  · simp [Mtu.withHistory, appendInterval_of_full i hfull, hfull, Config.lockRun]
  · intro h; rw [show m.state = .lost from h] at hs; cases hs
  · intro h; exact absurd hs h

/-- R11: the loss. -/
theorem sound.lose (hm : m.sound) : { m with
    state := .lost, coast := false, refTime := none, len := m.pendingLen, midDue := none }.sound := by
  obtain ⟨hlen, hints, hp, -, hpL, hg, hc, -, -, -, -⟩ := hm
  refine ⟨hlen, hints, hp, hpL, hpL, hg, hc, ?_, ?_, fun _ => rfl, fun _ => ⟨rfl, rfl, rfl⟩⟩ <;>
    intro h <;> cases h

/-- R13: a new L, in force at once while the mains is not LOCKED. -/
theorem sound.setLen (hm : m.sound) {l : Nat} (hl : 8 ≤ l ∧ l ≤ 128) :
    { m with len := if m.state = MainsState.locked then m.len else l, pendingLen := l }.sound := by
  obtain ⟨hlen, hints, hp, hL, -, hg, hc, hse, hlk, hlo, hnl⟩ := hm
  refine ⟨hlen, hints, hp, ?_, hl, hg, hc, hse, fun h => ?_, hlo, fun h => ?_⟩
  · dsimp only; split <;> assumption
  · have h' : m.state = .locked := h
    simpa [h'] using hlk h
  · have h' : m.state ≠ .locked := h
    obtain ⟨hco, hmid, -⟩ := hnl h
    exact ⟨hco, hmid, if_neg h'⟩

end Mtu

/-! ### Edges, windows and points -/

theorem crossLocked_keeps_mtu_sound (order : List Taker) (ref : Nat) (syn : Bool) {s : State}
    (hm : s.mtu.sound) (hs : s.mtu.state = .locked) : (crossLocked order ref syn s).mtu.sound := by
  rw [crossLocked_mtu]
  exact hm.cross hs ref syn _

theorem loseMains_keeps_mtu_sound {s : State} (hm : s.mtu.sound) : (loseMains s).mtu.sound := by
  rw [loseMains_mtu]
  exact hm.lose

theorem syntheticCrossing_keeps_mtu_sound (order : List Taker) (ref : Nat) {s : State}
    (hm : s.mtu.sound) (hs : s.mtu.state = .locked) : (syntheticCrossing order ref s).mtu.sound :=
  crossLocked_keeps_mtu_sound order _ true (hm.coasts 1) hs

theorem expireWindow_keeps_mtu_sound (order : List Taker) {s : State} (hm : s.mtu.sound)
    (hs : s.mtu.state = .locked) : (expireWindow order s).mtu.sound := by
  unfold expireWindow
  split
  · dsimp only
    split
    · exact loseMains_keeps_mtu_sound hm
    · exact syntheticCrossing_keeps_mtu_sound order _ hm hs
  · exact hm

theorem state_of_windowOver {s : State} {t : Nat} (h : s.windowOver t = true) :
    s.mtu.state = .locked := by
  by_contra hs
  rw [windowOver_of_not_locked t hs] at h
  cases h

theorem settleWindow_keeps_mtu_sound (order : List Taker) (t : Nat) {s : State} (hm : s.mtu.sound) :
    (settleWindow order t s).mtu.sound := by
  have expire : ∀ {u : State}, u.mtu.sound →
      (if u.windowOver t then expireWindow order u else u).mtu.sound := by
    intro u hu
    split
    · next h => exact expireWindow_keeps_mtu_sound order hu (state_of_windowOver h)
    · exact hu
  exact expire (expire hm)

theorem realCrossing_keeps_mtu_sound (order : List Taker) {i : Nat} {s : State} (hm : s.mtu.sound)
    (hs : s.mtu.state = .locked) (h1 : 700 ≤ i) (h2 : i ≤ 1250) :
    (realCrossing order i s).mtu.sound := by
  unfold realCrossing
  dsimp only
  apply crossLocked_keeps_mtu_sound
  · split
    · exact hm
    · exact hm.measured hs h1 h2
  · split <;> exact hs

theorem lockMains_mtu (order : List Taker) (s : State) : (lockMains order s).mtu = { s.mtu with
    state := .locked, run := 0, coast := false, h := 0, len := s.mtu.pendingLen,
    frame := s.mtu.frame + 1, refTime := some s.now,
    midDue := some (midInstant s.now s.now s.mtu.period) } := by
  simp [lockMains]

theorem searchEdge_keeps_mtu_sound (order : List Taker) {i : Nat} {s : State} (hm : s.mtu.sound)
    (hs : s.mtu.state = .searching) (h1 : 700 ≤ i) (h2 : i ≤ 1250) :
    (searchEdge order i s).mtu.sound := by
  have hrun : s.mtu.run < Config.lockRun := by
    obtain ⟨-, -, -, -, -, -, -, hse, -⟩ := hm
    obtain ⟨-, -, hlt⟩ := hse hs
    exact hlt
  rcases Nat.lt_or_eq_of_le (Nat.succ_le_of_lt hrun) with h | h
  · rw [searchEdge_of_run_lt order i h]
    exact hm.counted hs h1 h2 h _
  · rw [searchEdge_of_run_eq order i h, lockMains_mtu]
    exact hm.lock hs h1 h2 h _ _ _

theorem classedEdge_keeps_mtu_sound (order : List Taker) {r : Nat} {s : State} (hm : s.mtu.sound)
    (hl : s.mtu.state ≠ .lost) : (classedEdge order r s).mtu.sound := by
  rcases Nat.lt_or_ge (s.now - r) 700 with h1 | h1
  · rw [classedEdge_of_short order h1]
    exact hm.glitch 1
  · cases hs : s.mtu.state with
    | lost => exact absurd hs hl
    | searching =>
      rcases Nat.lt_or_ge 1250 (s.now - r) with h2 | h2
      · rw [classedEdge_of_long order hs h2]
        have hh : s.mtu.h = 0 := by
          obtain ⟨-, -, -, -, -, -, -, hse, -⟩ := hm
          exact (hse hs).1
        simpa [longEdge, Mtu.withHistory, hs, hh] using hm.restart (by simp [hs]) s.now
      · rw [classedEdge_of_valid_searching order hs h1 h2]
        exact searchEdge_keeps_mtu_sound order hm hs h1 h2
    | locked =>
      rcases Nat.lt_or_ge 1250 (s.now - r) with h2 | h2
      · have hn : ¬ s.now - r < Config.shortestValid := Nat.not_lt.mpr h1
        have hw : ¬ s.now - r ≤ Config.window := Nat.not_le.mpr h2
        simpa [classedEdge, hn, hw, State.isLocked, hs] using hm
      · rw [classedEdge_of_valid_locked order hs h1 h2]
        exact realCrossing_keeps_mtu_sound order hm hs h1 h2

theorem edge_keeps_mtu_sound (order : List Taker) {s : State} (hm : s.mtu.sound) :
    (edge order s).mtu.sound := by
  by_cases hl : s.mtu.state = .lost
  · rw [edge_of_lost order hl]
    exact hm.restart (by simp [hl]) s.now
  · cases hr : s.mtu.refTime with
    | none =>
      rw [edge_of_no_ref order hl hr]
      exact hm.reference hl s.now
    | some r =>
      rw [edge_of_ref order hl hr]
      exact classedEdge_keeps_mtu_sound order hm hl

theorem edgeAt_keeps_mtu_sound (order : List Taker) (time : Nat) {s : State} (hm : s.mtu.sound) :
    (edgeAt order time s).mtu.sound :=
  edge_keeps_mtu_sound order (settleWindow_keeps_mtu_sound order (max s.now time) hm)

theorem midPoint_mtu (cs : ZoneSet) (first : Bool) (s : State) :
    (midPoint cs first s).mtu = { s.mtu with midDue := none } := by
  cases first <;> simp [midPoint]

/-! ### Happenings that leave the mains timing unit -/

/-- R124: what the handling of an expiry and the passing of time keep, the expiry keeps. -/
theorem onExpiry_keeps {α : Type} (π : State → α) (g : GroupId) (k : TimerKind) {f : State → State}
    (hf : ∀ x, π (f x) = π x) (ht : ∀ (x : State) t, π (x.atTime t) = π x) (s : State) :
    π (onExpiry g k f s) = π s := by
  unfold onExpiry
  split
  · rw [hf, ht]
  · rfl

@[simp] theorem openExpired_mtu (g : GroupId) (s : State) : (openExpired g s).mtu = s.mtu := by
  unfold openExpired
  split <;> simp

@[simp] theorem verifyExpired_mtu (g : GroupId) (s : State) : (verifyExpired g s).mtu = s.mtu := by
  unfold verifyExpired
  split <;> simp

@[simp] theorem rawChange_mtu (line : RawLine) (level : Bool) (s : State) :
    (rawChange line level s).mtu = s.mtu := by
  cases line <;> simp [rawChange]

@[simp] theorem frameEnds_mtu (s : State) : (frameEnds s).mtu = s.mtu := by
  unfold frameEnds
  split
  · rfl
  · simp
  · dsimp only
    split <;> simp

@[simp] theorem retransmitExpiry_mtu (s : State) : (retransmitExpiry s).mtu = s.mtu := by
  unfold retransmitExpiry
  split <;> simp

@[simp] theorem abandonFraming_mtu (s : State) : (abandonFraming s).mtu = s.mtu := by
  simp [abandonFraming]

@[simp] theorem gapExpiry_mtu (s : State) : (gapExpiry s).mtu = s.mtu := by
  unfold gapExpiry
  split <;> simp

/-! ### Requests -/

/-- R13: SET_FRAME writes the pending L, and L outside LOCKED, or nothing. -/
theorem answerSetFrame_mtu (l : Byte) (s : State) :
    (answerSetFrame l s).state.mtu = s.mtu ∨ (answerSetFrame l s).state.mtu =
      { s.mtu with len := if s.mtu.state = .locked then s.mtu.len else l.toNat,
                   pendingLen := l.toNat } := by
  unfold answerSetFrame
  split
  · exact .inl rfl
  · split
    · exact .inl rfl
    · refine .inr ?_
      simp [State.grant, State.isLocked]

@[simp] theorem answerConfigZone_mtu (z : ZoneId) (c : ZoneConfig) (s : State) :
    (answerConfigZone z c s).state.mtu = s.mtu := by
  unfold answerConfigZone
  split <;> simp [State.grant, State.deny]

@[simp] theorem answerEnableZone_mtu (z : ZoneId) (s : State) :
    (answerEnableZone z s).state.mtu = s.mtu := by
  unfold answerEnableZone
  split
  · split <;> simp [State.grant, State.deny]
  · rfl

@[simp] theorem answerDisableZone_mtu (z : ZoneId) (s : State) :
    (answerDisableZone z s).state.mtu = s.mtu := by
  unfold answerDisableZone
  split <;> simp [State.grant, State.deny]

@[simp] theorem setDemand_mtu (s : State) (z : ZoneId) (d : Nat) :
    (s.setDemand z d).mtu = s.mtu := by
  unfold State.setDemand
  split <;> simp

@[simp] theorem answerSetDemand_mtu (z : ZoneId) (d : Nat) (s : State) :
    (answerSetDemand z d s).state.mtu = s.mtu := by
  unfold answerSetDemand
  split <;> simp [State.grantDemand, State.grant, State.deny]

@[simp] theorem answerClearZone_mtu (z : ZoneId) (s : State) :
    (answerClearZone z s).state.mtu = s.mtu := by
  unfold answerClearZone
  split
  · simp [State.grant]
  · split <;> simp [State.grant, State.deny]
  · rfl

@[simp] theorem appendOrder_mtu (s : State) (z : ZoneId) (tag : Half) (total cap : Nat) :
    (s.appendOrder z tag total cap).mtu = s.mtu := by
  unfold State.appendOrder State.orderAccepted
  dsimp only
  split <;> simp

@[simp] theorem answerQueueOrder_mtu (z : ZoneId) (tag : Half) (total cap : Nat) (s : State) :
    (answerQueueOrder z tag total cap s).state.mtu = s.mtu := by
  unfold answerQueueOrder
  (repeat' split) <;> simp [State.grant, State.deny]

@[simp] theorem answerAbortOrder_mtu (z : ZoneId) (tag : Half) (s : State) :
    (answerAbortOrder z tag s).state.mtu = s.mtu := by
  unfold answerAbortOrder abortBehind
  (repeat' split) <;> simp [State.grant, State.deny]

@[simp] theorem answerCloseGroup_mtu (g : GroupId) (s : State) :
    (answerCloseGroup g s).state.mtu = s.mtu := by
  unfold answerCloseGroup closeTaken
  (repeat' split) <;> simp [State.grant, State.deny]

@[simp] theorem answerOpenGroup_mtu (g : GroupId) (s : State) :
    (answerOpenGroup g s).state.mtu = s.mtu := by
  unfold answerOpenGroup
  split <;> simp [State.grantGroup, State.grant, State.deny]

@[simp] theorem answerAckTrip_mtu (g : GroupId) (s : State) :
    (answerAckTrip g s).state.mtu = s.mtu := by
  unfold answerAckTrip
  split <;> simp [State.grant, State.deny]

@[simp] theorem answerTripAll_mtu (s : State) : (answerTripAll s).state.mtu = s.mtu := by
  simp [answerTripAll, State.grant]

@[simp] theorem answerReadTripRecord_mtu (n : Half) (s : State) :
    (answerReadTripRecord n s).state.mtu = s.mtu := by
  unfold answerReadTripRecord
  split <;> rfl

@[simp] theorem answerReleaseTripRecord_mtu (n : Half) (s : State) :
    (answerReleaseTripRecord n s).state.mtu = s.mtu := by
  unfold answerReleaseTripRecord
  (repeat' split) <;> rfl

/-- Every request but SET_FRAME leaves the mains timing unit. -/
theorem answer_mtu (r : Request) (s : State) (hr : ∀ l, r ≠ .setFrame l) :
    (answer r s).state.mtu = s.mtu := by
  cases r with
  | setFrame l => exact absurd rfl (hr l)
  | configZone | enableZone | disableZone | setDemand | clearZone | queueOrder | abortOrder
  | closeGroup | openGroup | ackTrip | tripAll | readTripRecord | releaseTripRecord => simp [answer]
  | clearTally => simp [answer, answerClearTally, State.grant]
  | _ => rfl

theorem execute_keeps_mtu_sound (num : BitVec 4) (type : Byte) (p : Parsed) {s : State}
    (hm : s.mtu.sound) : (execute num type p s).mtu.sound := by
  unfold execute
  split
  · simpa using hm
  · next r =>
    split
    · next hr =>
      dsimp only
      simp only [storeReply_keeps]
      cases r with
      | setFrame l =>
        have hl : 8 ≤ l.toNat ∧ l.toNat ≤ 128 := (within_iff _ _ _).mp hr
        rcases answerSetFrame_mtu l s with h | h
        · rw [answer, h]; exact hm
        · rw [answer, h]; exact hm.setLen hl
      | _ =>
        rw [answer_mtu _ s (by intro l h; cases h)]
        exact hm
    · simpa using hm

theorem serveFrame_keeps_mtu_sound (num : BitVec 4) (ack type : Byte) (p : Parsed) {s : State}
    (hm : s.mtu.sound) : (serveFrame num ack type p s).mtu.sound := by
  unfold serveFrame handleRequest
  simp only [txChoose_keeps]
  split
  · simpa using hm
  · split
    · simpa using hm
    · exact execute_keeps_mtu_sound num type p (by simpa using hm)

theorem frameComplete_keeps_mtu_sound (bytes : List Byte) {s : State} (hm : s.mtu.sound) :
    (frameComplete bytes s).mtu.sound := by
  unfold frameComplete validFrame
  split
  · split
    · exact serveFrame_keeps_mtu_sound _ _ _ _ hm
    · exact hm
  · exact hm

@[simp] theorem keepByte_mtu (st : RxState) (b : Byte) (s : State) :
    (keepByte st b s).mtu = s.mtu := by
  simp [keepByte]

theorem goodByte_keeps_mtu_sound (b : Byte) {s : State} (hm : s.mtu.sound) :
    (goodByte b s).mtu.sound := by
  unfold goodByte
  dsimp only
  split
  · split <;> simpa using hm
  · split <;> simpa using hm
  · simpa using hm
  · split
    · exact frameComplete_keeps_mtu_sound _ (by simpa using hm)
    · simpa using hm

theorem receiveByte_keeps_mtu_sound (b : Byte) (ok : Bool) {s : State} (hm : s.mtu.sound) :
    (receiveByte b ok s).mtu.sound := by
  unfold receiveByte
  split
  · exact goodByte_keeps_mtu_sound b hm
  · split <;> simpa using hm

theorem byteAt_keeps_mtu_sound (t : Nat) (b : Byte) (ok : Bool) {s : State} (hm : s.mtu.sound) :
    (byteAt t b ok s).mtu.sound := by
  apply receiveByte_keeps_mtu_sound
  split <;> simpa using hm

/-! ### Resets -/

@[simp] theorem startUp_keeps (cause : ResetCause) (s : State) :
    (startUp cause s).now = s.now ∧ (startUp cause s).mtu = s.mtu ∧
    (startUp cause s).zones = s.zones ∧ (startUp cause s).orders = s.orders ∧
    (startUp cause s).planner = s.planner ∧ (startUp cause s).switch = s.switch ∧
    (startUp cause s).sup = s.sup ∧ (startUp cause s).gcc = s.gcc ∧
    (startUp cause s).store = s.store ∧ (startUp cause s).pending = s.pending := by
  simp [startUp]

/-! ### Every command -/

/-- A request command is its frame, served. -/
theorem exec_of_requestOf {i : Instr} {hd : Header} {r : Request} (s : State)
    (h : i.requestOf = some (hd, r)) : exec i s = .next (serve hd r s) := by
  cases i <;> cases h <;> rfl

/-- Table 1-1, R5, R6, R8, R11, R12: every command keeps the mains timing unit sound. -/
theorem exec_keeps_mtu_sound (i : Instr) {s t : State} (hm : s.mtu.sound) (h : exec i s = .next t) :
    t.mtu.sound := by
  have unchanged : ∀ {u : State}, u.mtu = s.mtu → u.mtu.sound := fun e => e ▸ hm
  have request : ∀ {hd : Header} {r : Request}, i.requestOf = some (hd, r) → t.mtu.sound := by
    intro hd r hreq
    rw [exec_of_requestOf s hreq] at h
    cases h
    exact serveFrame_keeps_mtu_sound _ _ _ _ hm
  cases i with
  | powerOn | pinReset =>
    cases h
    simp only [applyPower, applyPin, startUp_keeps]
    exact Mtu.sound_reset
  | zxEdge time order =>
    cases h
    simpa using edgeAt_keeps_mtu_sound order time hm
  | windowExpiry order =>
    cases h
    split
    · next hl => simpa using expireWindow_keeps_mtu_sound order hm (by simpa [State.isLocked] using hl)
    · exact hm
  | midHalfCyclePoint cs first =>
    cases h
    split
    · split
      · simpa [midPoint_mtu] using hm.midTaken
      · exact hm
    · exact hm
  | isenseReading =>
    cases h
    exact unchanged (by simp)
  | auxChange | stopChange =>
    cases h
    split
    · exact unchanged (by simp)
    · exact hm
  | closeTimerExpiry g | releaseDeadlineExpiry g | openTimerExpiry g | verifyTimerExpiry g
  | stuckContactTimerExpiry g =>
    cases h
    exact unchanged (onExpiry_keeps State.mtu g _ (fun x => by simp) (fun _ _ => rfl) s)
  | rxByte time byte ok =>
    cases h
    exact byteAt_keeps_mtu_sound time byte ok hm
  | byteGapTimeout | txFrameEnd | retransmitTimerExpiry | rawInputChange =>
    cases h
    exact unchanged (by simp)
  | _ => exact request rfl

/-- Settles O5: an idle step changes nothing, and a command is `exec_keeps_mtu_sound`. -/
theorem stepKeepsTheMainsTimingUnitSound : Obligations.StepKeepsTheMainsTimingUnitSound := by
  intro s t hs h
  obtain ⟨hm, -⟩ := hs
  unfold step at h
  split at h
  · cases h
    exact hm
  · next c cs _ => exact exec_keeps_mtu_sound c (s := { s with pending := cs }) hm h

end Sys2Proof.Machine
end

section
/-! SUPPORT. Zero crossings in LOCKED: the order of the takers, the crossing that an edge or an expired window
makes, and the edge that finds its window overdue. Settles O18. -/

namespace Sys2Proof.Machine

/-! ### The order of the takers (log entry 5) -/

theorem nodup_eraseDups : ∀ l : List Taker, l.eraseDups.Nodup
  | [] => List.nodup_nil
  | t :: l => by
    rw [List.eraseDups_cons, List.nodup_cons]
    exact ⟨by simp, nodup_eraseDups _⟩
termination_by l => l.length
decreasing_by exact Nat.lt_succ_of_le (List.length_filter_le _ _)

theorem eraseDups_of_nodup {l : List Taker} (h : l.Nodup) : l.eraseDups = l := by
  induction l with
  | nil => rfl
  | cons t l ih =>
    obtain ⟨ht, hl⟩ := List.nodup_cons.mp h
    have hf : l.filter (fun b => !b == t) = l :=
      List.filter_eq_self.mpr fun b hb => by
        simpa using fun e : b = t => ht (e ▸ hb)
    rw [List.eraseDups_cons, hf, ih hl]

theorem mem_tableOrder (t : Taker) : t ∈ tableOrder := by cases t <;> decide

theorem takerOrder_nodup (order : List Taker) : (takerOrder order).Nodup := by
  refine List.nodup_append.mpr ⟨nodup_eraseDups order, List.Nodup.filter _ (by decide), ?_⟩
  rintro a ha b hb rfl
  have hin : a ∈ order := List.mem_eraseDups.mp ha
  have hout : a ∉ order := by simpa using (List.mem_filter.mp hb).2
  exact hout hin

theorem mem_takerOrder (order : List Taker) (t : Taker) : t ∈ takerOrder order := by
  by_cases h : t ∈ order
  · exact List.mem_append_left _ (List.mem_eraseDups.mpr h)
  · exact List.mem_append_right _ (List.mem_filter.mpr ⟨mem_tableOrder t, by simpa using h⟩)

theorem isPrefix_takerOrder {order : List Taker} (h : order.Nodup) : order <+: takerOrder order := by
  rw [takerOrder, eraseDups_of_nodup h]
  exact List.prefix_append _ _

/-! ### The crossing of an advance (R7, R8, R10) -/

theorem crossing_eq (m : Mtu) (syn : Bool) : m.crossing syn = {
    frame := if m.h + 1 < m.len then m.frame else m.frame + 1,
    len := if m.h + 1 < m.len then m.len else m.pendingLen,
    h := if m.h + 1 < m.len then m.h + 1 else 0,
    synthetic := syn, lock := false, boundary := !decide (m.h + 1 < m.len),
    lChanged := !decide (m.h + 1 < m.len) && m.pendingLen != m.len,
    endedFrame := m.frame, endedH := m.h } := by
  simp only [Mtu.crossing, advance_eq]

/-- R6, R7: the history after a real crossing, `i` after the one before. -/
def Mtu.historyAfter (m : Mtu) (i : Nat) : List Nat :=
  if m.coast then m.history else m.history.drop 1 ++ [i]

/-- R6, R7, R9: the mains timing unit after a real crossing at `now`, `i` after the one before. -/
def Mtu.crossed (m : Mtu) (now i : Nat) : Mtu :=
  { m.advance with
    refTime := some now, coast := false, history := m.historyAfter i,
    period := (m.historyAfter i).sum / 8, midDue := some (now + (m.historyAfter i).sum / 8 / 2) }

/-- R8, R9: the mains timing unit after the synthetic crossing that a window makes, expired at `now`. -/
def Mtu.coasted (m : Mtu) (now r : Nat) : Mtu :=
  { m.advance with
    refTime := some (r + m.period), coast := true, coasts := min 65535 (m.coasts + 1),
    midDue := some (max now (r + m.period + m.period / 2)) }

@[simp] theorem crossed_keeps (m : Mtu) (now i : Nat) :
    (m.crossed now i).state = m.state ∧ (m.crossed now i).refTime = some now ∧
    (m.crossed now i).coast = false ∧ (m.crossed now i).coasts = m.coasts ∧
    (m.crossed now i).history = m.historyAfter i := by
  simp [Mtu.crossed, advance_eq]

@[simp] theorem coasted_keeps (m : Mtu) (now r : Nat) :
    (m.coasted now r).state = m.state ∧ (m.coasted now r).refTime = some (r + m.period) ∧
    (m.coasted now r).coast = true ∧ (m.coasted now r).coasts = min 65535 (m.coasts + 1) ∧
    (m.coasted now r).glitches = m.glitches ∧ (m.coasted now r).history = m.history := by
  simp [Mtu.coasted, advance_eq]

theorem midInstant_self (now p : Nat) : midInstant now now p = now + p / 2 := by
  simp [midInstant]

/-- R6, R7, R10: a valid edge in LOCKED makes one crossing and hands it on. -/
theorem realCrossing_eq (order : List Taker) (i : Nat) {s : State} (hm : s.mtu.sound)
    (hs : s.mtu.state = .locked) : realCrossing order i s =
      handOn order (s.mtu.crossing false) { s with mtu := s.mtu.crossed s.now i } := by
  obtain ⟨-, -, hp, -, -, -, -, -, hlk, -⟩ := hm
  obtain ⟨hfull, -⟩ := hlk hs
  have hlast : (s.mtu.history.drop 1 ++ [i]).length = Config.lockRun := by
    simp [hfull, Config.lockRun]
  have hperiod : s.mtu.period = s.mtu.history.sum / 8 := hp.trans (periodOf_of_full hfull)
  unfold realCrossing
  cases hc : s.mtu.coast with
  | true =>
    simp only [if_true, crossLocked, midInstant_self, Mtu.crossed, Mtu.historyAfter, hc, ← hperiod,
      advance_eq]
  | false =>
    simp only [Bool.false_eq_true, if_false, crossLocked, midInstant_self, Mtu.crossed, Mtu.historyAfter, hc,
      Mtu.withHistory, appendInterval_of_full i hfull, periodOf_of_full hlast, advance_eq, crossing_eq]

/-- R8: a window that expires with the coast flag clear makes one synthetic crossing and hands it on. -/
theorem expireWindow_of_clear (order : List Taker) {r : Nat} {s : State}
    (hr : s.mtu.refTime = some r) (hc : s.mtu.coast = false) : expireWindow order s =
      handOn order (s.mtu.crossing true) { s with
        now := max s.now (r + 1250), mtu := s.mtu.coasted (max s.now (r + 1250)) r } := by
  simp only [expireWindow, hr, atTime_keeps, hc, Bool.false_eq_true, if_false, syntheticCrossing,
    crossLocked, crossing_eq, Mtu.coasted, advance_eq, midInstant]
  rfl

/-- R11: a window that expires with the coast flag set loses the mains. -/
theorem expireWindow_of_coast (order : List Taker) {r : Nat} {s : State}
    (hr : s.mtu.refTime = some r) (hc : s.mtu.coast = true) :
    expireWindow order s = loseMains (s.atTime (r + 1250)) := by
  simp only [expireWindow, hr, atTime_keeps, hc]
  rfl

/-- R8: the expiry command of a window in LOCKED. -/
theorem exec_windowExpiry_of_locked (order : List Taker) {s : State} (hs : s.mtu.state = .locked) :
    exec (.windowExpiry order) s = .next (txChoose (expireWindow order s)) := by
  have hl : s.isLocked = true := by simp [State.isLocked, hs]
  exact congrArg Host.Outcome.next (if_pos hl)

/-! ### Overdue windows (log entry 4) -/

/-- R8: a window that is over leaves the instant before the one at which it is found over. -/
theorem expireWindow_now (order : List Taker) {s : State} {T : Nat} (h : s.windowOver T = true) :
    s.now ≤ (expireWindow order s).now ∧ (expireWindow order s).now ≤ max s.now T := by
  cases hr : s.mtu.refTime with
  | none => simp [State.windowOver, hr] at h
  | some r =>
    have hT := ((windowOver_iff T hr).mp h).2
    cases hc : s.mtu.coast with
    | true => rw [expireWindow_of_coast order hr hc]; simp; omega
    | false => rw [expireWindow_of_clear order hr hc]; simp; omega

theorem settleWindow_now (order : List Taker) (T : Nat) (s : State) :
    s.now ≤ (settleWindow order T s).now ∧ (settleWindow order T s).now ≤ max s.now T := by
  have once : ∀ u : State,
      u.now ≤ (if u.windowOver T then expireWindow order u else u).now ∧
      (if u.windowOver T then expireWindow order u else u).now ≤ max u.now T := by
    intro u
    split
    · next h => exact expireWindow_now order h
    · exact ⟨Nat.le_refl _, Nat.le_max_left _ _⟩
  obtain ⟨h1, h2⟩ := once s
  obtain ⟨h3, h4⟩ := once (if s.windowOver T then expireWindow order s else s)
  exact ⟨Nat.le_trans h1 h3, Nat.le_trans h4 (by omega)⟩

/-- R8: with the coast flag set one expiry settles the window. -/
theorem settleWindow_of_coast (order : List Taker) {T : Nat} {u : State}
    (hc : u.windowOver T = true → u.mtu.coast = true) :
    settleWindow order T u = if u.windowOver T then expireWindow order u else u := by
  unfold settleWindow
  by_cases h : u.windowOver T = true
  · have hno : (expireWindow order u).windowOver T = false := by
      cases hr : u.mtu.refTime with
      | none => simp [State.windowOver, hr] at h
      | some r => rw [expireWindow_of_coast order hr (hc h), loseMains_windowOver]
    simp [h, hno]
  · simp [h]

/-- R8: settling an overdue window is settling after its expiry. -/
theorem settleWindow_of_over (order : List Taker) {T : Nat} {s : State}
    (h : s.windowOver T = true) :
    settleWindow order T s = settleWindow order T (expireWindow order s) := by
  rw [settleWindow_of_coast order (expireWindow_coasts order s T), settleWindow, if_pos h]

@[simp] theorem edge_now (order : List Taker) (s : State) : (edge order s).now = s.now := by
  have real : ∀ i, (realCrossing order i s).now = s.now := fun i => by
    simp [realCrossing, crossLocked]
  have search : ∀ i, (searchEdge order i s).now = s.now := fun i => by
    unfold searchEdge lockMains
    dsimp only
    split <;> simp
  unfold edge classedEdge
  split
  · rfl
  · split
    · rfl
    · dsimp only
      split
      · rfl
      · split
        · split
          · exact real _
          · exact search _
        · split <;> rfl

@[simp] theorem edgeAt_now (order : List Taker) (time : Nat) (s : State) :
    (edgeAt order time s).now = max s.now time := by
  obtain ⟨h1, h2⟩ := settleWindow_now order (max s.now time) s
  simp only [edgeAt, edge_now, atTime_now]
  omega

/-- An edge that finds its window overdue is that edge after the expiry (log entry 4). -/
theorem edgeAt_of_over (order : List Taker) {time : Nat} {s : State}
    (h : s.windowOver (max s.now time) = true) :
    edgeAt order time s = edgeAt order (max s.now time) (expireWindow order s) := by
  obtain ⟨h1, h2⟩ := expireWindow_now order h
  obtain ⟨h3, h4⟩ := settleWindow_now order (max s.now time) (expireWindow order s)
  have hT : max (expireWindow order s).now (max s.now time) = max s.now time := by omega
  have hat : (settleWindow order (max s.now time) (expireWindow order s)).atTime time =
      (settleWindow order (max s.now time) (expireWindow order s)).atTime (max s.now time) := by
    simp only [State.atTime]
    congr 1
    omega
  rw [edgeAt, edgeAt, hT, settleWindow_of_over order h, hat]

/-- R11, R12: an overdue window with the coast flag set loses the mains, and the edge ends LOST. -/
theorem edgeAt_of_over_coast (order : List Taker) {time r : Nat} {s : State}
    (hs : s.mtu.state = .locked) (hr : s.mtu.refTime = some r) (hT : r + 1250 < max s.now time)
    (hc : s.mtu.coast = true) :
    edgeAt order time s = endOfLost ((loseMains (s.atTime (r + 1250))).atTime time) := by
  have hover : s.windowOver (max s.now time) = true := (windowOver_iff _ hr).mpr ⟨hs, hT⟩
  rw [edgeAt, settleWindow_of_coast order (fun _ => hc), if_pos hover, expireWindow_of_coast order hr hc]
  exact edge_of_lost order (by simp [loseMains_mtu])

@[simp] theorem loseMains_lines (s : State) : (loseMains s).switch.lines = 0 := by
  simp [loseMains, dropLines]

/-- R11, R12: what the loss and the edge that ends it leave. -/
theorem edgeAt_of_over_coast_mtu (order : List Taker) {time r : Nat} {s : State}
    (hs : s.mtu.state = .locked) (hr : s.mtu.refTime = some r) (hT : r + 1250 < max s.now time)
    (hc : s.mtu.coast = true) :
    (edgeAt order time s).switch.lines = 0 ∧ (edgeAt order time s).mtu = { s.mtu with
      state := .searching, refTime := some (max s.now time), history := [], period := 0, run := 0,
      coast := false, h := 0, midDue := none, len := s.mtu.pendingLen } := by
  have hnow : max (max s.now (r + 1250)) time = max s.now time := by omega
  rw [edgeAt_of_over_coast order hs hr hT hc]
  refine ⟨by simp [endOfLost], ?_⟩
  simp [endOfLost, loseMains_mtu, Mtu.withHistory, periodOf, hnow]

/-- R3, R8: an edge within 7.0 ms of the reference time, taken at its instant. -/
theorem edgeAt_of_short (order : List Taker) {time r : Nat} {s : State}
    (hs : s.mtu.state = .locked) (hr : s.mtu.refTime = some r) (h : max s.now time - r < 700) :
    edgeAt order time s = glitch (s.atTime time) := by
  rw [edgeAt_of_not_over order time s (windowOver_of_within hr (by omega)),
    edge_of_ref (r := r) order (by simp [hs]) (by simpa using hr),
    classedEdge_of_short order (by simpa using h)]

/-- R7: a valid edge in LOCKED, taken at its instant. -/
theorem edgeAt_of_valid (order : List Taker) {time r : Nat} {s : State} (hm : s.mtu.sound)
    (hs : s.mtu.state = .locked) (hr : s.mtu.refTime = some r)
    (h1 : 700 ≤ max s.now time - r) (h2 : max s.now time - r ≤ 1250) :
    edgeAt order time s = handOn order (s.mtu.crossing false) { s with
      now := max s.now time, mtu := s.mtu.crossed (max s.now time) (max s.now time - r) } := by
  rw [edgeAt_of_not_over order time s (windowOver_of_within hr h2),
    edge_of_ref (r := r) order (by simp [hs]) (by simpa using hr),
    classedEdge_of_valid_locked order (by simpa using hs) (by simpa using h1) (by simpa using h2),
    realCrossing_eq order _ (by simpa using hm) (by simpa using hs)]
  rfl

/-- R8: the state after the synthetic crossing of an overdue window is LOCKED, with the coast flag set, one
period after the old reference time. -/
theorem expireWindow_of_clear_mtu (order : List Taker) {r : Nat} {s : State}
    (hr : s.mtu.refTime = some r) (hc : s.mtu.coast = false) :
    (expireWindow order s).mtu = s.mtu.coasted (max s.now (r + 1250)) r ∧
    (expireWindow order s).now = max s.now (r + 1250) := by
  rw [expireWindow_of_clear order hr hc]
  simp

/-- R3, R7, R8, R11: an overdue edge with the coast flag clear, by its interval from the synthetic crossing that
its window made: a glitch, a real crossing, or the edge after the loss. -/
theorem edgeAt_of_over_clear (order : List Taker) {time r : Nat} {s : State} (hm : s.mtu.sound)
    (hs : s.mtu.state = .locked) (hr : s.mtu.refTime = some r) (hT : r + 1250 < max s.now time)
    (hc : s.mtu.coast = false) :
    let t := edgeAt order time s
    let since := max s.now time - (r + s.mtu.period)
    t.mtu.coasts = min 65535 (s.mtu.coasts + 1) ∧
    (since < 700 → t.mtu.state = .locked ∧ t.mtu.refTime = some (r + s.mtu.period) ∧
      t.mtu.coast = true ∧ t.mtu.glitches = min 65535 (s.mtu.glitches + 1)) ∧
    (700 ≤ since → since ≤ 1250 → t.mtu.state = .locked ∧ t.mtu.refTime = some (max s.now time) ∧
      t.mtu.coast = false ∧ t.mtu.history = s.mtu.history) ∧
    (1250 < since → t.switch.lines = 0 ∧ t.mtu.state = .searching ∧
      t.mtu.refTime = some (max s.now time) ∧ t.mtu.history = [] ∧ t.mtu.h = 0 ∧
      t.mtu.len = t.mtu.pendingLen) := by
  intro t since
  have ht : t = edgeAt order (max s.now time) (expireWindow order s) :=
    edgeAt_of_over order ((windowOver_iff _ hr).mpr ⟨hs, hT⟩)
  obtain ⟨hXm, hXn⟩ := expireWindow_of_clear_mtu order hr hc
  have hXsound := expireWindow_keeps_mtu_sound order hm hs
  generalize expireWindow order s = X at ht hXm hXn hXsound
  have hXs : X.mtu.state = .locked := by simp [hXm, hs]
  have hXr : X.mtu.refTime = some (r + s.mtu.period) := by simp [hXm]
  have hXc : X.mtu.coast = true := by simp [hXm]
  have hnow : max X.now (max s.now time) = max s.now time := by omega
  rcases Nat.lt_or_ge since 700 with h1 | h1
  · have hshort : t = glitch (X.atTime (max s.now time)) :=
      ht.trans (edgeAt_of_short order hXs hXr (by rw [hnow]; exact h1))
    refine ⟨by simp [hshort, glitch, hXm], fun _ => ?_, fun h => by omega, fun h => by omega⟩
    simp [hshort, glitch, hXm, hs, satAdd, max16]
  rcases Nat.lt_or_ge 1250 since with h2 | h2
  · obtain ⟨hlines, hmtu⟩ := edgeAt_of_over_coast_mtu (time := max s.now time) order hXs hXr (by omega) hXc
    rw [← ht] at hlines hmtu
    refine ⟨by simp [hmtu, hXm], fun h => by omega, fun _ h => by omega, fun _ => ?_⟩
    simp [hlines, hmtu, hnow]
  · have hvalid : t = handOn order (X.mtu.crossing false)
        { X with now := max s.now time, mtu := X.mtu.crossed (max s.now time) since } := by
      have h := edgeAt_of_valid (time := max s.now time) order hXsound hXs hXr
        (by rw [hnow]; exact h1) (by rw [hnow]; exact h2)
      rw [hnow] at h
      exact ht.trans h
    refine ⟨by simp [hvalid, hXm], fun h => by omega, fun _ _ => ?_, fun h => by omega⟩
    simp [hvalid, hXm, Mtu.historyAfter, hs]

/-- Settles O18: an overdue edge is the same edge after the synthetic crossing, and its interval from that
crossing classes it. -/
theorem zeroCrossingAdvancesTheHalfCycle : Obligations.ZeroCrossingAdvancesTheHalfCycle := by
  refine ⟨fun order => ⟨takerOrder_nodup order, mem_takerOrder order, isPrefix_takerOrder⟩,
    by decide, ?_⟩
  intro within next crossed coasted
  have hcoasted : ∀ r s, coasted r s = s.mtu.coasted (max s.now (r + 1250)) r := fun r s => by
    simp only [coasted, next, within, Mtu.coasted, advance_eq]
  have hcrossed : ∀ order syn s now m, crossed order syn s now m =
      handOn order (s.mtu.crossing syn) { s with now := now, mtu := m } := fun order syn s now m => by
    rw [crossing_eq]
    rfl
  refine ⟨?real, ?synthetic, ?overdue⟩
  case real =>
    intro time r order s hm hs hr h1 h2
    refine ⟨txChoose (edgeAt order time s), rfl, by simp, ?_⟩
    rw [edgeAt_of_valid order hm hs hr h1 h2]
    intro hist m
    have hmtu : s.mtu.crossed (max s.now time) (max s.now time - r) = m := by
      simp only [Mtu.crossed, advance_eq]
      rfl
    rw [hmtu, hcrossed]
    exact ⟨by simp, rfl⟩
  case synthetic =>
    intro r order s hs hr hc
    refine ⟨_, exec_windowExpiry_of_locked order hs, ?_, ?_, ?_⟩
    all_goals rw [expireWindow_of_clear order hr hc]
    · simp
    · simp [hcoasted]
    · rw [hcrossed, hcoasted]
  case overdue =>
    intro time r order s hm hs hr hT
    refine ⟨txChoose (edgeAt order time s), rfl, by simp, ?_⟩
    intro lost since
    refine ⟨fun hc => ?_, fun hc => ?_, fun hc => ?_, fun hc => ?_, fun hc => ?_⟩
    · obtain ⟨hlines, hmtu⟩ := edgeAt_of_over_coast_mtu order hs hr hT hc
      simp [hlines, hmtu, lost]
    all_goals
      obtain ⟨hcoasts, hshort, hvalid, hlong⟩ := edgeAt_of_over_clear order hm hs hr hT hc
    · refine ⟨by simpa using hcoasts, ?_⟩
      rw [edgeAt_of_over order ((windowOver_iff _ hr).mpr ⟨hs, hT⟩), expireWindow_of_clear order hr hc,
        hcrossed, hcoasted]
      rfl
    · simpa only [txChoose_keeps] using hshort
    · simpa only [txChoose_keeps] using hvalid
    · simpa only [txChoose_keeps] using hlong

end Sys2Proof.Machine
end

section
/-! SUPPORT. The lock crossing: what the takers of a crossing keep and establish in any order, the reports
that stay in the queue, and the empty plan on which the mains locks. Settles O17. -/

namespace Sys2Proof.Machine

/-! ### What a handed-on crossing keeps and establishes -/

variable {c : Crossing}

/-- What each taker keeps of a crossing, its hand-on keeps. -/
theorem handOn_induction {P : State → Prop} (hP : ∀ k s, P s → P (takeCrossing c k s))
    (order : List Taker) {s : State} (hs : P s) : P (handOn order c s) := by
  unfold handOn
  generalize takerOrder order = l
  induction l generalizing s with
  | nil => exact hs
  | cons k l ih => exact ih (hP k s hs)

/-- What one taker establishes under an invariant, and the others keep, holds after the hand-on. -/
theorem handOn_establishes {P Q : State → Prop} (k₀ : Taker)
    (hP : ∀ k s, P s → P (takeCrossing c k s)) (hQ : ∀ s, P s → Q (takeCrossing c k₀ s))
    (hkeep : ∀ k s, k ≠ k₀ → Q s → Q (takeCrossing c k s))
    (order : List Taker) {s : State} (hs : P s) : Q (handOn order c s) := by
  have hmem := mem_takerOrder order k₀
  unfold handOn
  generalize takerOrder order = l at hmem
  have after : ∀ (l : List Taker) (u : State), P u → Q u →
      Q (l.foldl (fun u k => takeCrossing c k u) u) := by
    intro l
    induction l with
    | nil => exact fun u _ hu => hu
    | cons k l ih =>
      intro u hPu hQu
      refine ih _ (hP k u hPu) ?_
      by_cases hk : k = k₀
      · exact hk ▸ hQ u hPu
      · exact hkeep k u hk hQu
  induction l generalizing s with
  | nil => cases hmem
  | cons k l ih =>
    rcases List.mem_cons.mp hmem with rfl | hmem
    · exact after l _ (hP k₀ s hs) (hQ s hs)
    · exact ih (hP k s hs) hmem

/-- Only the switch stage writes the drive lines and records (R93). -/
theorem takeCrossing_switch (k : Taker) (s : State) (hk : k ≠ .switchStage) :
    (takeCrossing c k s).switch = s.switch := by
  cases k with
  | switchStage => exact absurd rfl hk
  | zoneTable => unfold takeCrossing; dsimp only; split <;> simp
  | _ => simp [takeCrossing]

/-- Only the planner writes the plans. -/
theorem takeCrossing_planner (k : Taker) (s : State) (hk : k ≠ .planner) :
    (takeCrossing c k s).planner = s.planner := by
  cases k with
  | planner => exact absurd rfl hk
  | zoneTable => unfold takeCrossing; dsimp only; split <;> simp
  | _ => simp [takeCrossing]

/-! ### Reports that stay in the queue -/

/-- The queue holds a report. -/
def State.holds (s : State) (r : Report) : Prop := r ∈ s.reports.entries.map (·.report)

theorem holds_of_reports_eq {s t : State} {r : Report} (h : t.reports = s.reports) (hs : s.holds r) :
    t.holds r := by
  rw [State.holds, h]; exact hs

theorem shrinkQueue_holds {s : State} {r : Report} (z : ZoneId) (q : List Order) (hs : s.holds r) :
    (s.shrinkQueue z q).holds r :=
  holds_of_reports_eq (by simp) hs

theorem cut_holds {s : State} {r : Report} (f : BitVec 32) (l : Nat) (b : Bool) (hs : s.holds r) :
    (cut f l b s).holds r :=
  holds_of_reports_eq (by simp) hs

theorem restartReadings_holds {s : State} {r : Report} (hs : s.holds r) :
    (restartReadings s).holds r :=
  holds_of_reports_eq (by simp) hs

/-- R162, R163: an ordinary report that finds the queue full is lost, and evicts no other. -/
theorem holds_submit {s : State} {r r' : Report} (hr : r'.critical = false) (hs : s.holds r) :
    (submit r' s).holds r := by
  simp only [State.holds, submit_reports] at *
  unfold ReportQueue.offer ReportQueue.generate ReportQueue.place
  split
  · split
    · simp only [ReportQueue.enter, List.map_append]
      exact List.mem_append_left _ hs
    · simp only [hr]
      exact hs
  · exact hs

/-- R160, R161: a report that is generated enters a queue that is not full. -/
theorem submit_holds {s : State} {r : Report} (hr : s.reports.generates r = true)
    (hl : s.reports.entries.length < 48) : (submit r s).holds r := by
  have hl' : s.reports.entries.length < Config.reportDepth := hl
  simp [State.holds, ReportQueue.offer, ReportQueue.generate, ReportQueue.place, hr, hl', ReportQueue.enter]

/-- R165: taking an entry marks it sent, and removes none. -/
theorem takeOldestUnsent_reports {es es' : List QueueEntry} {e : QueueEntry}
    (h : takeOldestUnsent es = some (e, es')) : es'.map (·.report) = es.map (·.report) := by
  induction es generalizing es' with
  | nil => cases h
  | cons x es ih =>
    unfold takeOldestUnsent at h
    split at h
    · split at h
      · next y es'' hy =>
        cases h
        simp [ih hy]
      · cases h
    · cases h
      rfl

theorem chooseReport_reports (s : State) :
    (chooseReport s).reports.entries.map (·.report) = s.reports.entries.map (·.report) := by
  unfold chooseReport
  split
  · next e q h =>
    unfold ReportQueue.takeReport at h
    split at h
    · split at h
      · next x es hx =>
        cases h
        exact takeOldestUnsent_reports hx
      · cases h
    · cases h
  · rfl

/-- R182: the transmitter's choice removes no entry. -/
theorem txChoose_holds {s : State} {r : Report} (hs : s.holds r) : (txChoose s).holds r := by
  unfold txChoose
  split
  · split
    · split
      · exact hs
      · rw [State.holds, chooseReport_reports]; exact hs
    · rw [State.holds, chooseReport_reports]; exact hs
  · exact hs
  · exact hs

section Leak

variable {s : State} {r : Report}

theorem leakOpen_holds (z : ZoneId) (hs : s.holds r) : (leakOpen z s).holds r := by
  unfold leakOpen
  dsimp only
  split
  · split
    · exact holds_submit rfl hs
    · exact hs
  · exact hs

theorem leakStuck_holds (z : ZoneId) (hs : s.holds r) : (leakStuck z s).holds r := by
  unfold leakStuck
  dsimp only
  split
  · split
    · exact holds_submit rfl hs
    · exact hs
  · exact hs

theorem leakSupply_holds (hs : s.holds r) : (leakSupply s).holds r := by
  unfold leakSupply
  dsimp only
  split
  · split
    · exact holds_submit rfl hs
    · exact hs
  · exact hs

theorem leakFrame_holds (hs : s.holds r) : (leakFrame s).holds r := by
  have zones : (forZones allZones leakZone s).holds r :=
    forZones_induction (State.holds · r) (fun z _ h => leakStuck_holds z (leakOpen_holds z h)) _ _ hs
  exact holds_of_reports_eq (s := leakSupply (forZones allZones leakZone s)) (by simp [leakFrame])
    (leakSupply_holds zones)

/-- R113: at the lock crossing there is no supply check, and the leak's reports are ordinary. -/
theorem supervisionAtCrossing_holds (hc : c.lock = true) (hs : s.holds r) :
    (supervisionAtCrossing c s).holds r := by
  unfold supervisionAtCrossing
  simp only [hc, if_true]
  apply restartReadings_holds
  split
  · exact leakFrame_holds hs
  · exact hs

theorem commit_holds (f : BitVec 32) (l : Nat) (b : Bool) (hs : s.holds r) :
    (commit f l b s).holds r := by
  unfold commit
  dsimp only
  split
  · exact hs
  · exact holds_submit rfl hs

theorem plannerAtBoundary_holds (hs : s.holds r) : (plannerAtBoundary c s).holds r := by
  unfold plannerAtBoundary
  split
  · exact cut_holds _ _ _ (commit_holds _ _ _ hs)
  · exact hs

theorem runDownLease_holds (l : Nat) (z : ZoneId) (hs : s.holds r) :
    (runDownLease l z s).holds r := by
  unfold runDownLease lapseLease
  dsimp only
  split
  · split
    · exact holds_submit rfl hs
    · exact hs
  · exact hs

theorem zonesAtBoundary_holds (l : Nat) (b : Bool) (hs : s.holds r) :
    (zonesAtBoundary l b s).holds r := by
  apply forZones_induction (State.holds · r) (fun z _ h => runDownLease_holds l z h)
  split
  · exact holds_of_reports_eq (by simp) hs
  · exact hs

theorem fireHead_holds (z : ZoneId) (n : BitVec 32) (hs : s.holds r) : (fireHead z n s).holds r := by
  unfold fireHead
  split
  · exact hs
  · next o os _ =>
    have started : (if o.state = .planned then submit (.orderStarted z o.tag n) s else s).holds r := by
      split
      · exact holds_submit rfl hs
      · exact hs
    dsimp only
    split
    · exact shrinkQueue_holds z os (holds_submit rfl started)
    · exact started

theorem confirmReports_holds (z : ZoneId) (os : List Order) (hs : s.holds r) :
    (confirmReports z os s).holds r := by
  induction os generalizing s with
  | nil => exact hs
  | cons o os ih =>
    unfold confirmReports
    split
    · exact ih (holds_submit rfl hs)
    · exact ih hs

theorem switchAtCrossing_holds (f : BitVec 32) (l h : Nat) (b : Bool) (hs : s.holds r) :
    (switchAtCrossing f l h b s).holds r := by
  refine forZones_induction (State.holds · r) (fun z u hu => ?_) allZones _
    (holds_of_reports_eq (by simp) hs)
  refine shrinkQueue_holds z _ (confirmReports_holds z _ ?_)
  split
  · exact fireHead_holds z f hu
  · exact hu

/-- At the lock crossing no taker submits a critical report, so none evicts an entry. -/
theorem takeCrossing_holds (hc : c.lock = true) (k : Taker) (hs : s.holds r) :
    (takeCrossing c k s).holds r := by
  cases k with
  | switchStage => exact switchAtCrossing_holds _ _ _ _ hs
  | supervision => exact supervisionAtCrossing_holds hc hs
  | contactors => exact holds_of_reports_eq (by simp [takeCrossing]) hs
  | planner => exact plannerAtBoundary_holds hs
  | zoneTable =>
    unfold takeCrossing
    dsimp only
    split
    · exact zonesAtBoundary_holds _ _ hs
    · exact hs

end Leak

/-! ### The empty plan of the lock (R65, R82) -/

/-- A plan for a frame number and an L in which no zone has a source or a slot. -/
def Plan.emptyFor (p : Plan) (frame : BitVec 32) (len : Nat) : Prop :=
  p.frame = frame ∧ p.len = len ∧
    ∀ z : ZoneId, (p.entries[z]).source = .none ∧ (p.entries[z]).slots = []

/-- The planner holds no plan, or has committed an empty one for this frame. -/
def State.locksEmpty (s : State) (frame : BitVec 32) (len : Nat) : Prop :=
  (s.planner.committed = none ∧ s.planner.building = none) ∨
    ∃ q, s.planner.committed = some q ∧ q.emptyFor frame len

theorem emptyPlan_emptyFor (s : State) (frame : BitVec 32) (len : Nat) :
    (s.emptyPlan frame len).emptyFor frame len :=
  ⟨rfl, rfl, fun z => by simp [State.emptyPlan, Entry.empty]⟩

theorem readEntry_slots_of_locksEmpty {s : State} {frame : BitVec 32} {len : Nat}
    (h : s.locksEmpty frame len) (z : ZoneId) :
    (s.readEntry (s.governing frame len) z).slots = [] := by
  rcases h with ⟨hc, hb⟩ | ⟨q, hq, hf, hl, he⟩
  · simp [State.governing, planIfFor, hc, hb, State.readEntry, Entry.empty]
  · have hfor : q.isFor frame len = true := by simp [Plan.isFor, hf, hl]
    have hg : s.governing frame len = some q := by
      simp [State.governing, planIfFor, hq, Option.filter, hfor]
    rw [hg]
    unfold State.readEntry
    dsimp only
    split
    · exact (he z).2
    · rfl

/-- R90: on an empty plan no zone conducts. -/
theorem drives_of_locksEmpty {s : State} {frame : BitVec 32} {len : Nat}
    (h : s.locksEmpty frame len) (i : Nat) (z : ZoneId) : s.drives frame len i z = false := by
  simp [State.drives, readEntry_slots_of_locksEmpty h z]

/-- R65: at the lock crossing the planner commits an empty plan. -/
theorem plannerAtBoundary_of_lock (hb : c.boundary = true) (hl : c.lock = true) (s : State) :
    (plannerAtBoundary c s).planner.committed = some (s.emptyPlan c.frame c.len) := by
  have hcut : ∀ f l b (u : State), (cut f l b u).planner.committed = u.planner.committed := by
    intro f l b u
    simp [cut]
  unfold plannerAtBoundary
  simp only [hb, hl, if_true, hcut, Bool.or_true]
  unfold commit
  dsimp only
  split <;> simp [State.committedAt]

/-- The switch stage on an empty plan: no line, and an open record of no zone. -/
theorem switchAtCrossing_of_locksEmpty {s : State} {frame : BitVec 32} {len : Nat}
    (h : s.locksEmpty frame len) (i : Nat) (syn : Bool) :
    (switchAtCrossing frame len i syn s).switch.lines = 0 ∧
    ∃ d, (switchAtCrossing frame len i syn s).switch.present = some d ∧
      d.frame = frame ∧ d.h = i ∧ d.set = 0 := by
  have hnone : zoneSet (s.drives frame len i) = 0 :=
    zoneSet_ext fun z => by rw [inZones_zoneSet, drives_of_locksEmpty h, inZones_zero]
  simp [switchAtCrossing, driveLines, hnone]

/-- R5, R65, R82: the lock crossing, handed on from a state without plans, leaves no line asserted, a record
of no zone and an empty plan. -/
theorem handOn_lock_drives_nothing (hb : c.boundary = true) (hl : c.lock = true)
    (order : List Taker) {s : State} (hs : s.planner.committed = none ∧ s.planner.building = none) :
    ((handOn order c s).switch.lines = 0 ∧ ∃ d, (handOn order c s).switch.present = some d ∧
      d.frame = c.frame ∧ d.h = c.h ∧ d.set = 0) ∧
    ∃ q, (handOn order c s).planner.committed = some q ∧ q.emptyFor c.frame c.len := by
  have committed : ∀ u : State, ∃ q, (takeCrossing c .planner u).planner.committed = some q ∧
      q.emptyFor c.frame c.len := fun u =>
    ⟨_, plannerAtBoundary_of_lock hb hl u, emptyPlan_emptyFor u _ _⟩
  have keeps : ∀ k (u : State), u.locksEmpty c.frame c.len →
      (takeCrossing c k u).locksEmpty c.frame c.len := by
    intro k u hu
    by_cases hk : k = .planner
    · exact hk ▸ .inr (committed u)
    · rw [State.locksEmpty, takeCrossing_planner k u hk]
      exact hu
  constructor
  · refine handOn_establishes (P := (State.locksEmpty · c.frame c.len))
      (Q := fun u => u.switch.lines = 0 ∧ ∃ d, u.switch.present = some d ∧
        d.frame = c.frame ∧ d.h = c.h ∧ d.set = 0) .switchStage keeps
      (fun u hu => switchAtCrossing_of_locksEmpty hu c.h c.synthetic) ?_ order (.inl hs)
    intro k u hk hu
    rw [takeCrossing_switch k u hk]
    exact hu
  · refine handOn_establishes (P := fun _ => True)
      (Q := fun u => ∃ q, u.planner.committed = some q ∧ q.emptyFor c.frame c.len)
      .planner (fun _ _ _ => trivial) (fun u _ => committed u) ?_ order trivial
    intro k u hk hu
    rw [takeCrossing_planner k u hk]
    exact hu

/-- R5, R6, R9: the mains timing unit after the lock at `now`, `i` after the edge before. -/
def Mtu.lockedAt (m : Mtu) (now i : Nat) : Mtu :=
  { m with
    state := .locked, run := 0, history := m.history ++ [i], period := (m.history.sum + i) / 8,
    h := 0, len := m.pendingLen, frame := m.frame + 1, refTime := some now,
    midDue := some (now + (m.history.sum + i) / 8 / 2) }

/-- R4, R5: the edge of the eighth consecutive valid interval submits MAINS_LOCKED, then hands on the lock
crossing. -/
theorem edgeAt_of_eighth (order : List Taker) {time r : Nat} {s : State} (hm : s.mtu.sound)
    (hs : s.mtu.state = .searching) (hr : s.mtu.refTime = some r)
    (h1 : 700 ≤ max s.now time - r) (h2 : max s.now time - r ≤ 1250) (hrun : s.mtu.run = 7) :
    edgeAt order time s = handOn order (lockCrossing s.mtu)
      (submit (.mainsLocked ((s.mtu.history.sum + (max s.now time - r)) / 8) (s.mtu.frame + 1)) { s with
        now := max s.now time, mtu := s.mtu.lockedAt (max s.now time) (max s.now time - r) }) := by
  have hnl : s.mtu.state ≠ .locked := by simp [hs]
  obtain ⟨-, -, -, -, -, -, -, hsearch, -, -, hout⟩ := hm
  obtain ⟨-, hlen, -⟩ := hsearch hs
  rw [hrun] at hlen
  obtain ⟨hcoast, -⟩ := hout hnl
  have hroom : s.mtu.history.length < Config.lockRun := hlen ▸ Nat.lt_succ_self 7
  rw [edgeAt_of_not_over order time s (windowOver_of_not_locked _ hnl),
    edge_of_ref (r := r) order (by simp [hs]) (by simpa using hr),
    classedEdge_of_valid_searching order (by simpa using hs) (by simpa using h1) (by simpa using h2),
    searchEdge_of_run_eq (s := s.atTime time) order _ (by simp [hrun, Config.lockRun]), lockMains]
  simp only [atTime_keeps, atTime_now, Mtu.withHistory, periodOf_append, ← hlen, midInstant_self,
    appendInterval_of_room _ hroom, Mtu.lockedAt, hcoast]
  rfl

/-- R160, R161: MAINS_LOCKED is in the queue after the lock crossing, unless the queue was full or its
class is not subscribed. -/
theorem handOn_lock_holds (order : List Taker) (hl : c.lock = true) {s : State} {p : Nat} {f : BitVec 32}
    (hmask : s.reports.mask.getLsbD 0 = true) (hlen : s.reports.entries.length < 48) :
    (handOn order c (submit (.mainsLocked p f) s)).holds (.mainsLocked p f) := by
  have hgen : s.reports.generates (.mainsLocked p f) = true := by
    simpa [ReportQueue.generates, Report.critical, Report.classBit] using hmask
  exact handOn_induction (P := (State.holds · _)) (fun k _ h => takeCrossing_holds hl k h) order
    (submit_holds hgen hlen)

/-- Settles O17: `handOn_lock_drives_nothing` says what the crossing makes, and `handOn_lock_holds` that no
taker evicts MAINS_LOCKED. -/
theorem eighthValidEdgeLocksTheMains : Obligations.EighthValidEdgeLocksTheMains := by
  intro time r order s hs hse hr h1 h2 hrun
  obtain ⟨hm, -, hplan, -⟩ := hs
  have hplans : s.planner.committed = none ∧ s.planner.building = none := by
    obtain ⟨-, -, -, hnone, -⟩ := hplan
    exact hnone (by simp [hse])
  refine ⟨txChoose (edgeAt order time s), rfl, by simp, ?_⟩
  rw [edgeAt_of_eighth order hm hse hr h1 h2 hrun]
  generalize hu : { s with
    now := max s.now time, mtu := s.mtu.lockedAt (max s.now time) (max s.now time - r) } = u
  have hreports : u.reports = s.reports := hu ▸ rfl
  have hmtu : u.mtu = s.mtu.lockedAt (max s.now time) (max s.now time - r) := hu ▸ rfl
  obtain ⟨⟨hlines, hpresent⟩, q, hq, hframe, hlen, hempty⟩ :=
    handOn_lock_drives_nothing (c := lockCrossing s.mtu) rfl rfl order
      (s := submit (.mainsLocked ((s.mtu.history.sum + (max s.now time - r)) / 8) (s.mtu.frame + 1)) u)
      (by simpa [← hu] using hplans)
  refine ⟨?_, by simpa using hlines, by simpa [lockCrossing] using hpresent,
    q, by simpa using hq, hframe, hlen, hempty⟩
  intro p m c
  refine ⟨by rw [← hu]; rfl, by simp [hmtu, Mtu.lockedAt, m, p], fun hmask hroom => ?_⟩
  exact List.mem_map.mp (txChoose_holds
    (handOn_lock_holds order rfl (hreports ▸ hmask) (hreports ▸ hroom)))

end Sys2Proof.Machine
end

section
/-! SUPPORT. The mains loss: each block's part of it as one change of the state, and the whole of it.
Settles O19. -/

namespace Sys2Proof.Machine

/-! ### Folds that write each zone -/

/-- Writing the record of each zone of a list from the record before is one write of the table. -/
theorem forZones_setZone (g : ZoneId → Zone → Zone) {zs : List ZoneId} (h : zs.Nodup) (s : State) :
    forZones zs (fun z u => u.setZone z (g z (u.zone z))) s =
      { s with zones := Vector.ofFn fun z => if z ∈ zs then g z (s.zone z) else s.zone z } := by
  induction zs generalizing s with
  | nil =>
    have hz : s.zones = Vector.ofFn fun z => s.zone z := by ext i hi; simp [State.zone]
    simp [forZones, ← hz]
  | cons z zs ih =>
    obtain ⟨hz, hzs⟩ := List.nodup_cons.mp h
    have step : forZones (z :: zs) (fun z u => u.setZone z (g z (u.zone z))) s =
        forZones zs (fun z u => u.setZone z (g z (u.zone z))) (s.setZone z (g z (s.zone z))) := rfl
    rw [step, ih hzs]
    simp only [State.setZone, State.mk.injEq, true_and, and_true]
    congr 1
    funext y
    have hy := setZone_zone s z y (g z (s.zone z))
    simp only [State.setZone] at hy
    rw [hy]
    by_cases e : y = z
    · subst e; simp [hz]
    · simp [e]

theorem setZone_self (s : State) (z : ZoneId) : s.setZone z (s.zone z) = s := by
  simp [State.setZone, State.zone]

/-- R31: a zone in DEMAND or DOSING rests in IDLE. -/
def Zone.idled (v : Zone) : Zone :=
  if v.wants then { v with state := .idle, demand := 0, leaseLeft := 0 } else v

/-- R31: the zone table at a mains loss. -/
theorem zonesAtLoss_eq (s : State) :
    zonesAtLoss s = { s with zones := Vector.ofFn fun z => (s.zone z).idled } := by
  have hz : idleAtLoss = fun z (u : State) => u.setZone z (u.zone z).idled := by
    funext z u
    unfold idleAtLoss Zone.idled State.restZone
    split
    · rfl
    · rw [setZone_self]
  rw [zonesAtLoss, hz, forZones_setZone (fun _ => Zone.idled) allZones_nodup]
  simp

/-! ### The order queues at a mains loss (R55) -/

@[simp] theorem offerAll_nil (q : ReportQueue) : q.offerAll [] = q := rfl

@[simp] theorem offerAll_append (q : ReportQueue) (xs ys : List Report) :
    q.offerAll (xs ++ ys) = (q.offerAll xs).offerAll ys := by
  simp [ReportQueue.offerAll]

theorem lossReports_eq (z : ZoneId) (os : List Order) (s : State) :
    lossReports z os s = { s with reports := s.reports.offerAll (os.map (lossReport z)) } := by
  induction os generalizing s with
  | nil => rfl
  | cons o os ih => rw [lossReports, ih]; rfl

theorem lastOrderGone_of_not_dosing {s : State} {z : ZoneId} (h : (s.zone z).state ≠ .dosing) :
    s.lastOrderGone z = s := if_neg h

theorem shrinkQueue_of_not_dosing {s : State} {z : ZoneId} (h : (s.zone z).state ≠ .dosing)
    (q : List Order) : s.shrinkQueue z q = s.setQueue z q := by
  unfold State.shrinkQueue
  split
  · exact lastOrderGone_of_not_dosing (by simpa using h)
  · rfl

/-- R55: one queue at a mains loss, of a zone that is no longer DOSING. -/
theorem loseQueue_eq {s : State} {z : ZoneId} (h : (s.zone z).state ≠ .dosing) :
    loseQueue z s = { s with
      orders := { s.orders with queues := s.orders.queues.set z.val [] z.isLt },
      reports := s.reports.offerAll ((s.queue z).map (lossReport z)) } := by
  rw [loseQueue, lossReports_eq, shrinkQueue_of_not_dosing (by exact h)]
  rfl

/-- R55: the queues of a list of zones at a mains loss, none of them DOSING. -/
theorem forZones_loseQueue {zs : List ZoneId} (hzs : zs.Nodup) {s : State}
    (h : ∀ z, (s.zone z).state ≠ .dosing) :
    forZones zs loseQueue s = { s with
      orders := { s.orders with
        queues := Vector.ofFn fun z => if z ∈ zs then [] else s.queue z },
      reports := s.reports.offerAll (zs.flatMap fun z => (s.queue z).map (lossReport z)) } := by
  induction zs generalizing s with
  | nil =>
    have hq : s.orders.queues = Vector.ofFn fun z => s.queue z := by ext i hi; simp [State.queue]
    simp [forZones, ← hq]
  | cons z zs ih =>
    obtain ⟨hz, hzs⟩ := List.nodup_cons.mp hzs
    have step : forZones (z :: zs) loseQueue s = forZones zs loseQueue (loseQueue z s) := rfl
    have hzone : ∀ y, (loseQueue z s).zone y = s.zone y := fun y => by rw [loseQueue_eq (h z)]; rfl
    have hqueue : ∀ y, (loseQueue z s).queue y = if y = z then [] else s.queue y := fun y => by
      rw [loseQueue_eq (h z)]
      exact setQueue_queue s z y []
    have hlater : (zs.flatMap fun y => ((loseQueue z s).queue y).map (lossReport y)) =
        zs.flatMap fun y => (s.queue y).map (lossReport y) :=
      List.flatMap_congr fun y hy => by
        have hne : y ≠ z := fun e => hz (e ▸ hy)
        rw [hqueue, if_neg hne]
    rw [step, ih hzs (fun y => by rw [hzone]; exact h y), hlater]
    simp only [hqueue]
    rw [loseQueue_eq (h z)]
    simp only [List.flatMap_cons, offerAll_append, List.mem_cons, State.mk.injEq, OrderUnit.mk.injEq,
      true_and, and_true]
    congr 1
    funext y
    by_cases e : y = z <;> simp [e]

theorem queues_toList (s : State) : s.orders.queues.toList = allZones.map s.queue := by
  apply List.ext_getElem
  · simp [allZones]
  · intro i h1 h2
    simp [allZones, State.queue]

theorem lossCount_eq (s : State) : s.lossCount =
    (allZones.map fun z => (s.queue z).countP fun o => !o.isHalting).sum := by
  rw [State.lossCount, queues_toList, List.map_map]
  rfl

/-- R55: the report of an order that a mains loss halts. -/
theorem lossReport_eq (z : ZoneId) : lossReport z = fun o => .orderHalted z o.tag
    (match o.state with
      | .halting why => why
      | _ => .mainsLoss) o.fired o.remaining := by
  funext o
  unfold lossReport
  cases o.state <;> rfl

/-! ### The whole loss -/

theorem idled_not_dosing (v : Zone) : v.idled.state ≠ .dosing := by
  unfold Zone.idled
  split
  · exact nofun
  · next h => exact fun e => h (by simp [Zone.wants, e])

/-- R11, R31, R55, R81, R94: the mains loss. -/
theorem loseMains_eq (s : State) : loseMains s = { s with
    mtu := { s.mtu with
      state := .lost, coast := false, refTime := none, len := s.mtu.pendingLen, midDue := none },
    switch := (dropLines s).switch, planner := (discardPlans s).planner,
    zones := Vector.ofFn fun z => (s.zone z).idled,
    orders := { s.orders with queues := Vector.ofFn fun _ => [] },
    reports := s.reports.offerAll
      ((allZones.flatMap fun z => (s.queue z).map (lossReport z)) ++
        [.mainsLost s.mtu.frame s.mtu.h s.lossCount]) } := by
  unfold loseMains loseAllOrders
  dsimp only
  rw [zonesAtLoss_eq, forZones_loseQueue allZones_nodup]
  · simp only [mem_allZones, if_true, offerAll_append]
    rfl
  · intro z
    have hz : ∀ (u : State), ({ u with zones := Vector.ofFn fun z => (s.zone z).idled } : State).zone z =
        (s.zone z).idled := fun u => by simp [State.zone]
    exact (congrArg Zone.state (hz _)).trans_ne (idled_not_dosing _)

/-- Settles O19: the expired window is a loss, and `loseMains_eq` says the whole of it. -/
theorem secondWindowExpiryLosesTheMains : Obligations.SecondWindowExpiryLosesTheMains := by
  intro r order s hs hr hc
  rw [exec_windowExpiry_of_locked order hs, expireWindow_of_coast order hr hc, loseMains_eq,
    lossCount_eq]
  simp only [Zone.idled, Zone.wants, lossReport_eq, atTime_keeps, Bool.or_eq_true, beq_iff_eq]
  rfl

end Sys2Proof.Machine
end

section
/-! SUPPORT. The mid-half-cycle point: what the conduction checks leave of the zone table, of the supervision
unit and of the groups that no trip affects, and what the tests of TRIPPING groups make of them. Settles O20. -/

namespace Sys2Proof.Machine

/-! ### The configuration of the zones -/

/-- The part of a zone record that only CONFIG_ZONE and a reset write (R19). -/
def State.setup (s : State) (z : ZoneId) : ZoneConfig × Bool := (s.zones[z].cfg, s.zones[z].configured)

theorem setup_eq (s : State) (z : ZoneId) : s.setup z = ((s.zone z).cfg, (s.zone z).configured) := rfl

/-- A write of a zone's record that keeps its configuration keeps every zone's. -/
theorem setZone_setup {s : State} {y : ZoneId} {v : Zone} (hc : v.cfg = (s.zone y).cfg)
    (hf : v.configured = (s.zone y).configured) (z : ZoneId) : (s.setZone y v).setup z = s.setup z := by
  rw [setup_eq, setup_eq, setZone_zone]
  by_cases h : z = y
  · simp [h, hc, hf]
  · simp [h]

variable (z : ZoneId) (s : State)

@[simp] theorem lastOrderGone_setup (y : ZoneId) : (s.lastOrderGone y).setup z = s.setup z := by
  unfold State.lastOrderGone
  split
  · exact setZone_setup (by rfl) (by rfl) z
  · rfl

@[simp] theorem setQueue_setup (y : ZoneId) (q : List Order) :
    (s.setQueue y q).setup z = s.setup z := rfl

@[simp] theorem shrinkQueue_setup (y : ZoneId) (q : List Order) :
    (s.shrinkQueue y q).setup z = s.setup z := by
  unfold State.shrinkQueue
  split <;> simp

@[simp] theorem haltAllAtOnce_setup (y : ZoneId) (r : HaltReason) (os : List Order) :
    (haltAllAtOnce y r os s).setup z = s.setup z := by
  simp [State.setup]

@[simp] theorem haltZoneOrders_setup (y : ZoneId) (r : HaltReason) :
    (haltZoneOrders y r s).1.setup z = s.setup z := by
  unfold haltZoneOrders
  split
  · rfl
  · split <;> simp

@[simp] theorem leaveService_setup (y : ZoneId) (st : ZoneState) (r : HaltReason) :
    (leaveService y st r s).1.setup z = s.setup z := by
  rw [leaveService, haltZoneOrders_setup]
  exact setZone_setup (by rfl) (by rfl) z

@[simp] theorem withdrawGroup_setup (g : GroupId) (r : HaltReason) :
    (withdrawGroup g r s).setup z = s.setup z := by
  refine forZones_keeps (State.setup · z) (fun y u => ?_) _ _
  unfold withdrawZone
  split <;> simp

@[simp] theorem afterTrip_setup (m : GroupSet) : (afterTrip m s).setup z = s.setup z := by
  have withdrawn : (forGroups (groupList m) (fun g => withdrawGroup g .groupTrip) s).setup z = s.setup z :=
    forGroups_keeps (State.setup · z) (fun g u => by simp) _ _
  rw [← withdrawn]
  simp [afterTrip, State.setup]

@[simp] theorem trip_setup (cause : TripCause) (named : GroupId → Bool) (ls : List LockedZone) :
    (trip cause named ls s).1.setup z = s.setup z := by
  unfold trip
  dsimp only
  split
  · rfl
  · rw [afterTrip_setup]
    simp [State.setup]

@[simp] theorem stuckOnTrip_setup (y : ZoneId) : (stuckOnTrip y s).1.setup z = s.setup z := by
  unfold stuckOnTrip
  dsimp only
  split
  · split <;> rfl
  · exact trip_setup z s _ _ _

/-! ### The scores and marks of supervision -/

/-- The supervision unit without its zone scores and frame marks of zones. -/
def Supervision.unscored (u : Supervision) : Supervision :=
  { u with
    openScores := Vector.ofFn fun _ => 0, stuckScores := Vector.ofFn fun _ => 0,
    openChecked := 0, openFailed := 0, stuckChecked := 0, stuckFailed := 0 }

theorem eq_of_unscored_eq {u v : Supervision} (h : u.unscored = v.unscored) : u = { v with
    openScores := u.openScores, stuckScores := u.stuckScores, openChecked := u.openChecked,
    openFailed := u.openFailed, stuckChecked := u.stuckChecked, stuckFailed := u.stuckFailed } := by
  cases u
  cases v
  simp_all [Supervision.unscored]

/-! ### Groups that no trip affects -/

/-- A group's record without its current record number. -/
def Group.unrecorded (v : Group) : Group := { v with record := 0 }

variable {s} {g : GroupId}

theorem verifyGroup_group_self : (verifyGroup g s).group g =
    { s.group g with state := .tripped, timer := none } := by
  unfold verifyGroup
  dsimp only
  split <;> simp [State.group, State.setGroup]

theorem verifyGroup_group_other {y : GroupId} (h : g ≠ y) : (verifyGroup y s).group g = s.group g := by
  have hset := setGroup_group s y g { s.group y with state := .tripped, timer := none }
  rw [if_neg h] at hset
  rw [← hset]
  unfold verifyGroup
  dsimp only
  split <;> rfl

theorem testGroup_group_self : (testGroup g s).group g =
    if (s.group g).state = .tripping ∧ s.verified g then
      { s.group g with state := .tripped, timer := none } else s.group g := by
  unfold testGroup
  split
  · exact verifyGroup_group_self
  · rfl

theorem testGroup_group_other {y : GroupId} (h : g ≠ y) : (testGroup y s).group g = s.group g := by
  unfold testGroup
  split
  · exact verifyGroup_group_other h
  · rfl

/-- R138: a group's verification reads its aux, the zones' configurations, the sample and the mains state. -/
theorem verified_congr {t : State} (ha : (t.group g).aux = (s.group g).aux)
    (hz : ∀ z, t.setup z = s.setup z) (hs : t.sup.sample = s.sup.sample)
    (hm : t.mtu.state = s.mtu.state) : t.verified g = s.verified g := by
  have hcfg : ∀ z, (t.zone z).cfg = (s.zone z).cfg := fun z => congrArg Prod.fst (hz z)
  have hconf : ∀ z, (t.zone z).configured = (s.zone z).configured := fun z => congrArg Prod.snd (hz z)
  simp only [State.verified, State.zonesOf, State.isLocked, ha, hs, hm, hcfg, hconf]

theorem testList_group_of_notMem {gs : List GroupId} (h : g ∉ gs) :
    (forGroups gs testGroup s).group g = s.group g := by
  induction gs generalizing s with
  | nil => rfl
  | cons y ys ih =>
    obtain ⟨hy, hys⟩ : g ≠ y ∧ g ∉ ys := by simpa using h
    exact (ih (s := testGroup y s) hys).trans (testGroup_group_other hy)

theorem testList_group {gs : List GroupId} (hnd : gs.Nodup) (h : g ∈ gs) :
    (forGroups gs testGroup s).group g = (testGroup g s).group g := by
  induction gs generalizing s with
  | nil => cases h
  | cons y ys ih =>
    obtain ⟨hy, hys⟩ := List.nodup_cons.mp hnd
    have step : forGroups (y :: ys) testGroup s = forGroups ys testGroup (testGroup y s) := rfl
    rw [step]
    by_cases e : g = y
    · subst e
      exact testList_group_of_notMem hy
    · have hmem : g ∈ ys := (List.mem_cons.mp h).resolve_left e
      have hgroup : (testGroup y s).group g = s.group g := testGroup_group_other e
      rw [ih hys hmem, testGroup_group_self, testGroup_group_self, hgroup,
        
        verified_congr (s := s) (t := testGroup y s) (by rw [hgroup]) (by simp [State.setup]) (by simp)
          (by simp)]

/-- R138: the tests at a point take a verified TRIPPING group to TRIPPED, and change no other. -/
theorem testGroups_group : (testGroups s).group g =
    if (s.group g).state = .tripping ∧ s.verified g then
      { s.group g with state := .tripped, timer := none } else s.group g := by
  rw [testGroups, testList_group allGroups_nodup (mem_allGroups g), testGroup_group_self]

theorem makeRecord_group (r : TripRecord) :
    ((makeRecord r s).1.group g).unrecorded = (s.group g).unrecorded := by
  unfold makeRecord
  split
  · simp only [forgetRecord, mapGroups_group]
    split <;> rfl
  · rfl

theorem afterTrip_group_of_notMem {m : GroupSet} (h : inGroups m g = false) :
    (afterTrip m s).group g = s.group g := by
  rw [afterTrip, testList_group_of_notMem (by simp [groupList, h])]
  simp [State.group]

/-- R132: a trip affects a group only if it is CLOSING, CLOSED or OPENING. -/
theorem trip_group_of_not_trippable (h : (s.group g).state.trippable = false) (cause : TripCause)
    (named : GroupId → Bool) (ls : List LockedZone) :
    ((trip cause named ls s).1.group g).unrecorded = (s.group g).unrecorded := by
  have hout : inGroups (s.affected named) g = false := by simp [State.affected, h]
  unfold trip
  dsimp only
  split
  · rfl
  · rw [afterTrip_group_of_notMem hout]
    simp only [submit_keeps, setRecords, mapGroups_group, hout, Bool.false_eq_true, if_false]
    rw [makeRecord_group]
    simp [tripGroups, hout]

theorem stuckOnTrip_group_of_not_trippable (h : (s.group g).state.trippable = false) (y : ZoneId) :
    ((stuckOnTrip y s).1.group g).unrecorded = (s.group g).unrecorded := by
  unfold stuckOnTrip
  dsimp only
  split
  · split <;> rfl
  · exact trip_group_of_not_trippable h _ _ _

/-! ### The conduction checks -/

/-- The frame of the conduction checks, as values that they keep: `c` is the configuration of zone z, `u`
supervision but for the zones' scores and marks, and `v` the record of group g but for its number, where no
trip affects the group's state. -/
def State.checkFrame (s : State) (z : ZoneId) (g : GroupId) (v : Group) (c : ZoneConfig × Bool)
    (u : Supervision) : Prop :=
  s.setup z = c ∧ s.sup.unscored = u ∧ (v.state.trippable = false → (s.group g).unrecorded = v)

variable {v : Group} {c : ZoneConfig × Bool} {u : Supervision}

theorem openLoadLatch_checkFrame (y : ZoneId) (h : s.checkFrame z g v c u) :
    (openLoadLatch y s).checkFrame z g v c u := by
  obtain ⟨hc, hu, hv⟩ := h
  unfold openLoadLatch
  split
  case h_4 => exact ⟨hc, hu, hv⟩
  case h_5 => exact ⟨hc, hu, hv⟩
  case h_6 => exact ⟨hc, hu, hv⟩
  all_goals
    refine ⟨(leaveService_setup z s y _ _).trans hc, by simpa using hu, ?_⟩
    simpa [State.group] using hv

theorem stuckOnLatch_checkFrame (y : ZoneId) (h : s.checkFrame z g v c u) :
    (stuckOnLatch y s).checkFrame z g v c u := by
  obtain ⟨hc, hu, hv⟩ := h
  unfold stuckOnLatch
  split
  · exact ⟨hc, hu, hv⟩
  · dsimp only
    refine ⟨?_, by simpa using hu, fun ht => ?_⟩
    · exact ((stuckOnTrip_setup z _ y).trans (leaveService_setup z s y _ _)).trans hc
    · have hg : ((leaveService y .locked .zoneLocked s).1.group g) = s.group g := by simp [State.group]
      have ht' : ((leaveService y .locked .zoneLocked s).1.group g).state.trippable = false := by
        rw [hg, ← ht, ← hv ht]
        rfl
      exact ((stuckOnTrip_group_of_not_trippable ht' y).trans (by rw [hg])).trans (hv ht)

/-- A write of a score or a mark, and a report, are within the frame. -/
theorem checkFrame_of_sup {t : State} (h : s.checkFrame z g v c u) (hz : t.zones = s.zones)
    (hs : t.sup.unscored = s.sup.unscored) (hg : t.gcc = s.gcc) : t.checkFrame z g v c u := by
  obtain ⟨hc, hu, hv⟩ := h
  exact ⟨by simpa [State.setup, hz] using hc, hs.trans hu, by simpa [State.group, hg] using hv⟩

theorem openStrike_checkFrame (y : ZoneId) (h : s.checkFrame z g v c u) :
    (openStrike y s).checkFrame z g v c u := by
  unfold openStrike
  dsimp only
  split
  · split
    · exact openLoadLatch_checkFrame z y
        (checkFrame_of_sup z h (by simp) (by simp [Supervision.unscored]) (by simp))
    · exact checkFrame_of_sup z h (by simp) (by simp [Supervision.unscored]) (by simp)
  · exact h

theorem stuckStrike_checkFrame (y : ZoneId) (h : s.checkFrame z g v c u) :
    (stuckStrike y s).checkFrame z g v c u := by
  unfold stuckStrike
  dsimp only
  split
  · split
    · exact stuckOnLatch_checkFrame z y
        (checkFrame_of_sup z h (by simp) (by simp [Supervision.unscored]) (by simp))
    · exact checkFrame_of_sup z h (by simp) (by simp [Supervision.unscored]) (by simp)
  · exact h

theorem markOpen_checkFrame (y : ZoneId) (b : Bool) (h : s.checkFrame z g v c u) :
    (markOpen y b s).checkFrame z g v c u :=
  checkFrame_of_sup z h rfl rfl rfl

theorem markStuck_checkFrame (y : ZoneId) (b : Bool) (h : s.checkFrame z g v c u) :
    (markStuck y b s).checkFrame z g v c u :=
  checkFrame_of_sup z h rfl rfl rfl

theorem applyCheck_checkFrame (y : ZoneId) (r : CheckResult) (h : s.checkFrame z g v c u) :
    (applyCheck y r s).checkFrame z g v c u := by
  unfold applyCheck
  split
  · exact h
  · split
    · exact openStrike_checkFrame z y (markOpen_checkFrame z y true h)
    · exact markOpen_checkFrame z y false h
  · split
    · exact stuckStrike_checkFrame z y (markStuck_checkFrame z y true h)
    · exact markStuck_checkFrame z y false h

theorem conductionChecks_frame (cs : ZoneSet) :
    (conductionChecks cs s).checkFrame z g (s.group g).unrecorded (s.setup z) s.sup.unscored :=
  forZones_induction (State.checkFrame · z g (s.group g).unrecorded (s.setup z) s.sup.unscored)
    (fun y _ hs => applyCheck_checkFrame z y _ hs) _ _ ⟨rfl, rfl, fun _ => rfl⟩

/-! ### The point (R9, R138) -/

/-- The group's record after its test, given whether it is verified. -/
def Group.tested (v : Group) (verified : Bool) : Group :=
  if v.state = .tripping ∧ verified then { v with state := .tripped, timer := none } else v

theorem tested_not_trippable {v : Group} (h : v.state.trippable = false) (b : Bool) :
    (v.tested b).unrecorded.state.trippable = false := by
  unfold Group.tested
  split
  · rfl
  · exact h

theorem unrecorded_tested (v : Group) (b : Bool) : v.unrecorded.tested b = (v.tested b).unrecorded := by
  unfold Group.tested Group.unrecorded
  dsimp only
  split <;> rfl

/-- R102, R138: in either order of the two blocks, a group that no trip affects is tested on the sample of the
point, and is otherwise left but for its record number. -/
theorem checksAndTests_group (cs : ZoneSet) (h : (s.group g).state.trippable = false) :
    ((conductionChecks cs (testGroups s)).group g).unrecorded =
      ((s.group g).tested (s.verified g)).unrecorded ∧
    ((testGroups (conductionChecks cs s)).group g).unrecorded =
      ((s.group g).tested (s.verified g)).unrecorded := by
  have frame := fun u y => conductionChecks_frame y (s := u) (g := g) cs
  obtain ⟨-, hsup, hkept⟩ := frame s 0
  constructor
  · have htest : (testGroups s).group g = (s.group g).tested (s.verified g) := testGroups_group
    obtain ⟨-, -, hv⟩ := frame (testGroups s) 0
    rw [hv (by rw [htest]; exact tested_not_trippable h _), htest]
  · have hgroup : ((conductionChecks cs s).group g).unrecorded = (s.group g).unrecorded :=
      hkept h
    have hver : (conductionChecks cs s).verified g = s.verified g :=
      verified_congr (congrArg Group.aux hgroup :) (fun y => (frame s y).1)
        (congrArg Supervision.sample hsup :) (by simp)
    have htest : (testGroups (conductionChecks cs s)).group g =
        ((conductionChecks cs s).group g).tested ((conductionChecks cs s).verified g) := testGroups_group
    rw [htest, hver, ← unrecorded_tested, ← unrecorded_tested, hgroup]

/-- R138: in LOCKED a group is verified on a sample when its aux is open and no configured zone of it
conducts. -/
theorem verified_iff_quiet {k : Sample} (hm : s.mtu.state = .locked) (hs : s.sup.sample = some k) :
    s.verified g = true ↔ (s.group g).aux = false ∧
      ∀ z, (s.zone z).cfg.group = g → (s.zone z).configured = true → inZones k.set z = false := by
  simp [State.verified, State.isLocked, hm, hs, List.all_eq_true, or_iff_not_imp_left]

/-- R9: the point of a locked half-cycle that is due. -/
theorem exec_midHalfCyclePoint_of_due (cs : ZoneSet) (first : Bool) {d : Nat}
    (hs : s.mtu.state = .locked) (hd : s.mtu.midDue = some d) :
    exec (.midHalfCyclePoint cs first) s = .next (txChoose (midPoint cs first (s.atTime d))) := by
  have hl : s.isLocked = true := by simp [State.isLocked, hs]
  simp [exec, execMidHalfCyclePoint, hd, hl]

/-- R102: the state on which the two blocks take the point. -/
def State.sampled (s : State) (cs : ZoneSet) : State :=
  takeSample cs { s with mtu := { s.mtu with midDue := none } }

theorem sampled_verified_iff (cs : ZoneSet) (hm : s.mtu.state = .locked) :
    (s.sampled cs).verified g = true ↔ (s.group g).aux = false ∧
      ∀ z, (s.zone z).cfg.group = g → (s.zone z).configured = true → inZones cs z = false :=
  verified_iff_quiet (s := s.sampled cs) hm rfl

theorem midPoint_eq (cs : ZoneSet) (first : Bool) (s : State) : midPoint cs first s =
    if first then conductionChecks cs (testGroups (s.sampled cs))
    else testGroups (conductionChecks cs (s.sampled cs)) := rfl

theorem midPoint_setup (cs : ZoneSet) (first : Bool) : (midPoint cs first s).setup z = s.setup z := by
  have tests : ∀ u : State, (testGroups u).setup z = u.setup z := fun u => by simp [State.setup]
  have checks : ∀ u : State, (conductionChecks cs u).setup z = u.setup z := fun u =>
    (conductionChecks_frame (g := 0) z cs).1
  have sampled : (s.sampled cs).setup z = s.setup z := rfl
  cases first <;> simp [midPoint_eq, tests, checks, sampled]

theorem midPoint_unscored (cs : ZoneSet) (first : Bool) :
    (midPoint cs first s).sup.unscored = (s.sampled cs).sup.unscored := by
  have checks : ∀ u : State, (conductionChecks cs u).sup.unscored = u.sup.unscored := fun u =>
    (conductionChecks_frame (g := 0) 0 cs).2.1
  cases first <;> simp [midPoint_eq, checks]

theorem midPoint_group (cs : ZoneSet) (first : Bool) (h : (s.group g).state.trippable = false) :
    ((midPoint cs first s).group g).unrecorded =
      ((s.group g).tested ((s.sampled cs).verified g)).unrecorded := by
  obtain ⟨h1, h2⟩ := checksAndTests_group (s := s.sampled cs) cs h
  cases first
  · exact h2
  · exact h1

/-- Settles O20: `midPoint_group` says the outcome of the test of a TRIPPING group, whichever block takes the
point first. -/
theorem midHalfCyclePointSamplesTheConduction : Obligations.MidHalfCyclePointSamplesTheConduction := by
  intro cs first d s hs hd
  refine ⟨_, exec_midHalfCyclePoint_of_due cs first hs hd, by simp, by simp [midPoint_mtu], ?_, by simp,
    by simp, by simp, fun z => ?_, fun g hg => ?_⟩
  · simp only [txChoose_keeps]
    exact eq_of_unscored_eq (midPoint_unscored (s := s.atTime d) cs first)
  · have hz : (txChoose (midPoint cs first (s.atTime d))).setup z = s.setup z := by
      simpa [State.setup] using midPoint_setup z (s := s.atTime d) cs first
    exact Prod.mk.inj hz
  · have hgroup : ((txChoose (midPoint cs first (s.atTime d))).group g).unrecorded =
        ((s.group g).tested (((s.atTime d).sampled cs).verified g)).unrecorded := by
      simpa [State.group] using
        midPoint_group (g := g) (s := s.atTime d) cs first (by simp [hg, GroupState.trippable])
    have hver := sampled_verified_iff (s := s.atTime d) (g := g) cs hs
    simp only [atTime_keeps] at hver
    generalize ((s.atTime d).sampled cs).verified g = b at hgroup hver
    intro quiet
    refine ⟨fun ha hq => ?_, fun hn => ?_⟩
    · have hb : b = true := hver.mpr ⟨ha, hq⟩
      have htested : (s.group g).tested b = { s.group g with state := .tripped, timer := none } :=
        if_pos ⟨hg, hb⟩
      rw [htested] at hgroup
      exact ⟨(congrArg Group.state hgroup :), (congrArg Group.timer hgroup :)⟩
    · have hb : ¬ b = true := fun hb => by
        obtain ⟨ha, hq⟩ := hver.mp hb
        exact hn.elim (by simp [ha]) (absurd hq)
      have htested : (s.group g).tested b = s.group g := if_neg fun h => hb h.2
      rw [htested] at hgroup
      exact ⟨(congrArg Group.state hgroup :).trans hg, (congrArg Group.timer hgroup :),
        (congrArg Group.aux hgroup :)⟩

end Sys2Proof.Machine
end

section
/-! SUPPORT. The resets, the expiries that cannot come, SET_FRAME, and the queries of the whole part.
Settles O2, O3, O38, O53 and O51. -/

namespace Sys2Proof.Machine

/-! ### Resets (R147, R154, R172) -/

/-- R172, R182: STARTUP enters the empty queue, and the idle transmitter takes it at once. -/
theorem startUp_blank (cause : ResetCause) (now : Nat) (b : Straps) (raw : Vector Bool 4) (stop : Bool)
    (store : TripStore) (pending : List Instr) :
    startUp cause (State.blank now b raw stop store pending) =
      { State.blank now b raw stop store pending with
        reports := { ReportQueue.empty with
          entries := [{ report := .startup cause store.records.length, seq := 0, sent := true,
                        everSent := true }],
          nextSeq := 1, generated := 1, alert := true },
        link := { Link.reset b with
          tx := .report (frameBytes 0x40 0 0x81 [cause.code, BitVec.ofNat 8 store.records.length]),
          counters := { LinkCounters.zero with reportsSent := 1 } } } := by
  cases cause <;> rfl

/-- Tables 1-1 to 10-1: the reset values of every block but the store. -/
theorem startUp_blank_afterReset (cause : ResetCause) (now : Nat) (b : Straps) (raw : Vector Bool 4)
    (stop : Bool) (store : TripStore) (pending : List Instr) :
    (startUp cause (State.blank now b raw stop store pending)).afterReset b cause := by
  rw [startUp_blank]
  refine ⟨rfl, fun z => by simp [State.zone, State.blank, Zone.reset],
    fun z => by simp [State.queue, State.blank, OrderUnit.reset],
    rfl, rfl, rfl, rfl, rfl, rfl, rfl, rfl, rfl, fun z => by simp [State.blank, Planner.reset],
    rfl, rfl, rfl, fun z => by simp [State.blank, SwitchStage.reset],
    rfl, rfl, rfl, rfl, fun z => by simp [State.blank, Supervision.reset],
    rfl, rfl, rfl, rfl, rfl, rfl, rfl, rfl, rfl, rfl,
    fun g => by simp [State.group, State.blank, Contactors.reset, Group.reset],
    rfl, rfl, rfl, rfl, rfl, rfl, rfl, rfl⟩

/-- R123: a reset keeps the raw lines. -/
theorem startUp_blank_rawAux (cause : ResetCause) (now : Nat) (b : Straps) (raw : Vector Bool 4)
    (stop : Bool) (store : TripStore) (pending : List Instr) (g : GroupId) :
    ((startUp cause (State.blank now b raw stop store pending)).group g).rawAux = raw[g] := by
  simp [State.group, State.blank, Contactors.reset, Group.reset]

/-- Settles O2: POWER_ON is STARTUP on the reset values. -/
theorem powerOnPutsEveryBlockAtItsResetValues : Obligations.PowerOnPutsEveryBlockAtItsResetValues := by
  intro time straps s
  refine ⟨applyPower time straps s, rfl, startUp_blank_afterReset _ _ _ _ _ _ _, ?_, ?_, fun g => ?_, ?_, ?_⟩
  · simp [applyPower, State.blank, TripStore.powerOn]
  · simp [applyPower, State.blank]
  · simp [applyPower, startUp_blank_rawAux]
  · simp [applyPower, State.blank, Contactors.reset]
  · simp [applyPower, State.blank]

/-- R154: a PENDING outcome becomes UNVERIFIED, and no other changes. -/
theorem atPinReset_eq (o : GroupOutcome) : o.atPinReset = if o = .pending then .unverified else o := by
  cases o <;> rfl

/-- Settles O3: PIN_RESET is STARTUP on the reset values, with the store that R154 leaves. -/
theorem pinResetKeepsTheTripRecordStore : Obligations.PinResetKeepsTheTripRecordStore := by
  intro time straps s
  have hstore : (applyPin time straps s).store = s.store.pinReset := by simp [applyPin, State.blank]
  refine ⟨applyPin time straps s, rfl, startUp_blank_afterReset _ _ _ _ _ _ _, ?_, ?_, ?_, ?_, ?_,
    fun g => ?_, ?_, ?_⟩
  · rw [hstore]; rfl
  · rw [hstore]; rfl
  · simp [hstore, TripStore.pinReset]
  · intro i r r' hr hr'
    simp only [hstore, TripStore.pinReset, List.getElem?_map, hr, Option.map_some, Option.some.injEq] at hr'
    subst hr'
    exact ⟨fun g => by simp [atPinReset_eq], rfl⟩
  · simp [applyPin, State.blank]
  · simp [applyPin, startUp_blank_rawAux]
  · simp [applyPin, State.blank, Contactors.reset]
  · simp [applyPin, State.blank]

/-! ### Happenings that cannot come (log entries 1 and 3) -/

/-- R124: a timer of another kind, or none, does not expire. -/
theorem onExpiry_of_stopped {g : GroupId} {k : TimerKind} (f : State → State) {s : State}
    (h : (s.group g).timer.map (·.kind) ≠ some k) : onExpiry g k f s = s := by
  have hruns : (s.group g).runs k = false := by
    unfold Group.runs
    split
    · next t ht => simpa [ht] using h
    · rfl
  simp [onExpiry, hruns]

/-- Settles O38: each handler finds its timer, count, window or point stopped. -/
theorem stoppedTimersDoNotExpire : Obligations.StoppedTimersDoNotExpire := by
  intro s
  have stopped : ∀ (g : GroupId) (k : TimerKind) (f : State → State),
      (s.group g).timer.map (·.kind) ≠ some k →
      (.next (onExpiry g k f s) : Result) = .next s := fun g k f h => by rw [onExpiry_of_stopped f h]
  refine ⟨fun g => stopped g _ _, fun g => stopped g _ _, fun g => stopped g _ _, fun g => stopped g _ _,
    fun g => stopped g _ _, fun g h => ?_, fun h => ?_, fun h => ?_, fun h => ?_, fun order h => ?_,
    fun cs first h => ?_⟩
  · simp [exec, execAuxChange, h]
  · simp [exec, execStopChange, h]
  · simp [exec, execByteGapTimeout, gapExpiry, h]
  · simp [exec, execRetransmitTimerExpiry, retransmitExpiry, h]
  · simp [exec, execWindowExpiry, State.isLocked, h]
  · rcases h with h | h
    · simp only [exec, execMidHalfCyclePoint, State.isLocked]
      split <;> simp [h]
    · simp [exec, execMidHalfCyclePoint, h]

/-! ### SET_FRAME (R13) -/

theorem anyGroupActive_iff (s : State) :
    s.anyGroupActive = true ↔ ¬ ∀ g, (s.group g).state = .opened := by
  simp [State.anyGroupActive]

theorem anyZoneActive_iff (s : State) :
    s.anyZoneActive = true ↔ ¬ ∀ z, (s.zone z).state ≠ .demand ∧ (s.zone z).state ≠ .dosing := by
  simp [State.anyZoneActive, Zone.wants, or_iff_not_imp_left]

/-- R181, R190: an accepted request in range whose answer is known replies with it. -/
theorem serve_of_answer {s : State} {hd : Header} {r : Request} {t : State} {code : ResultCode}
    {fields : List Byte} (h : s.accepts hd) (hr : r.inRange s.mtu.len = true)
    (ha : answer r (s.received hd) = { state := t, result := code, fields := fields })
    (hc : code ≠ .unknownRequest) :
    serve hd r s = t.replying hd (r.typeCode + 0x40) code fields := by
  rw [serve_of_accepts s hd r h hr, ha, replying_eq t hd _ code fields hc]

/-- Settles O53: the answer's two refusals and its grant, each as the reply. -/
theorem setFrameNeedsEveryGroupOpenAndNoZoneActive :
    Obligations.SetFrameNeedsEveryGroupOpenAndNoZoneActive := by
  intro hd l s h h1 h2 s1 allOpen noneActive inForce
  have hrange : (Request.setFrame l).inRange s.mtu.len = true := (within_iff _ _ _).mpr ⟨h1, h2⟩
  have hgroups : s1.anyGroupActive = true ↔ ¬ allOpen := by
    simpa only [received_views, s1] using anyGroupActive_iff s1
  have hzones : s1.anyZoneActive = true ↔ ¬ noneActive := by
    simpa only [received_views, s1] using anyZoneActive_iff s1
  have reply : ∀ {t code fields}, code ≠ ResultCode.unknownRequest →
      answerSetFrame l s1 = { state := t, result := code, fields := fields } →
      exec (.setFrame hd l) s = .next (t.replying hd 0x48 code fields) := fun hc ha =>
    congrArg Host.Outcome.next (serve_of_answer h hrange ha hc)
  refine ⟨fun hg => reply nofun ?_, fun hg hz => reply nofun ?_, fun hg hz => reply nofun ?_⟩
  · simp [answerSetFrame, hgroups.mpr hg, State.deny]
  · have hg' : s1.anyGroupActive = false := by simpa [hg] using hgroups
    simp [answerSetFrame, hg', hzones.mpr hz, State.deny]
  · have hg' : s1.anyGroupActive = false := by simpa [hg] using hgroups
    have hz' : s1.anyZoneActive = false := by simpa [hz] using hzones
    simp [answerSetFrame, hg', hz', State.grant, State.isLocked, inForce, byteOf, s1]

/-! ### Queries of the whole part (R14, R120, R145, R171, R187, R189) -/

theorem flagByte_eq (b : Bool) : flagByte b = if b then 1 else 0 := rfl

/-- R189: the retransmit timer's mark. -/
theorem retransmitRunning_byte (l : Link) :
    flagByte l.retransmitRunning = if l.retransmitAt = none then 0 else 1 := by
  unfold Link.retransmitRunning
  cases l.retransmitAt <;> rfl

theorem mask_byte_eq (m : BitVec 6) : byteOf m.toNat = m.zeroExtend 8 := by
  apply BitVec.eq_of_toNat_eq
  simp [byteOf]

/-- R145: one group of the QUERY_GROUPS reply. -/
theorem group_bytes_eq (v : Group) : v.bytes =
    [v.state.code, if v.coil then 1 else 0, if v.aux then 1 else 0] ++ leBytes 2 v.record.toNat := by
  rw [Group.bytes, half_bytes_eq]
  rfl

/-- Settles O51: each query is granted on the state in which it is taken, with these fields. -/
theorem queriesOfThePartAnswerFromTheState : Obligations.QueriesOfThePartAnswerFromTheState := by
  intro hd s h s1 m q u c
  have reply : ∀ {i : Instr} {r : Request} {type : Byte} {fields : List Byte},
      exec i s = .next (serve hd r s) → r.inRange s.mtu.len = true → r.typeCode + 0x40 = type →
      answer r s1 = s1.grant fields → exec i s = .next (s1.replying hd type .ok fields) := by
    intro i r type fields hi hr ht ha
    rw [hi, serve_of_answer h hr ha nofun, ht]
  refine ⟨reply rfl rfl rfl rfl, reply rfl rfl rfl ?_, reply rfl rfl rfl ?_, reply rfl rfl rfl ?_,
    reply rfl rfl rfl ?_, reply rfl rfl rfl ?_, reply rfl rfl rfl ?_⟩
  · rfl
  · simp only [answer, answerQueryLink, retransmitRunning_byte, LinkCounters.list, received_link, s1, c]
  · simp only [answer, answerQueryReportStatus, mask_byte_eq]
    rfl
  · simp only [answer, answerQueryMains, received_keeps, s1, m, byteOf]
  · simp only [answer, answerQuerySupervision, received_keeps, s1]
    rfl
  · simp only [answer, answerQueryGroups, group_bytes_eq, flagByte_eq, received_keeps, received_views, s1]

end Sys2Proof.Machine
end

section
/-! SUPPORT. Halts and withdrawals, each as one change of the state: a zone taken out of service, a group's
withdrawal, and the withdrawal of a set of groups. -/

namespace Sys2Proof.Machine

/-! ### Orders halted for a cause (R52) -/

theorem haltAllAtOnce_eq (z : ZoneId) (r : HaltReason) (os : List Order) (s : State) :
    haltAllAtOnce z r os s =
      { s with reports := s.reports.offerAll (os.map fun o => .orderHalted z o.tag r 0 o.total) } := by
  induction os generalizing s with
  | nil => rfl
  | cons o os ih => rw [haltAllAtOnce, ih]; rfl

theorem setQueue_self (s : State) (z : ZoneId) : s.setQueue z (s.queue z) = s := by
  simp [State.setQueue, State.queue]

/-- R52: the orders of a zone that is not DOSING are halted. -/
theorem haltZoneOrders_eq {s : State} {z : ZoneId} (h : (s.zone z).state ≠ .dosing) (r : HaltReason) :
    (haltZoneOrders z r s).1 = { s with
      orders := { s.orders with
        queues := s.orders.queues.set z.val (haltedQueue r (s.queue z)) z.isLt },
      reports := s.reports.offerAll (haltReports z r (s.queue z)) } := by
  have shrink : ∀ (os : List Order) (q : List Order), (haltAllAtOnce z r os s).shrinkQueue z q =
      { s.setQueue z q with
        reports := s.reports.offerAll (os.map fun o => .orderHalted z o.tag r 0 o.total) } := by
    intro os q
    rw [haltAllAtOnce_eq, shrinkQueue_of_not_dosing (by exact h)]
    rfl
  unfold haltZoneOrders
  cases hq : s.queue z with
  | nil =>
    have hself := setQueue_self s z
    rw [hq] at hself
    exact hself.symm
  | cons o os =>
    cases ho : o.state with
    | queued => simp only [shrink, haltReports, haltedQueue, ho, if_true]; rfl
    | halting | planned | active =>
      simp only [shrink, haltReports, haltedQueue, ho, reduceCtorEq]
      rfl

/-- R52: the number of orders halted leaves out a head that was HALTING already. -/
theorem haltZoneOrders_count (z : ZoneId) (r : HaltReason) (s : State) : (haltZoneOrders z r s).2 =
    match s.queue z with
    | [] => 0
    | o :: rest => rest.length + if o.isHalting then 0 else 1 := by
  unfold haltZoneOrders Order.isHalting
  cases s.queue z with
  | nil => rfl
  | cons o os => cases ho : o.state <;> simp [ho]

/-- R29: a zone is taken out of service. -/
theorem leaveService_eq {st : ZoneState} (h : st ≠ .dosing) (z : ZoneId) (r : HaltReason) (s : State) :
    (leaveService z st r s).1 = s.takenOut z st r := by
  have hrest : ((s.restZone z st).zone z).state ≠ .dosing := by simpa [State.restZone] using h
  rw [leaveService, haltZoneOrders_eq hrest]
  rfl

theorem leaveService_count (z : ZoneId) (st : ZoneState) (r : HaltReason) (s : State) :
    (leaveService z st r s).2 = match s.queue z with
      | [] => 0
      | o :: rest => rest.length + if o.isHalting then 0 else 1 :=
  haltZoneOrders_count z r (s.restZone z st)

/-! ### What a zone taken out of service shows -/

@[simp] theorem takenOut_keeps (s : State) (z : ZoneId) (st : ZoneState) (r : HaltReason) :
    (s.takenOut z st r).now = s.now ∧ (s.takenOut z st r).mtu = s.mtu ∧
    (s.takenOut z st r).planner = s.planner ∧ (s.takenOut z st r).switch = s.switch ∧
    (s.takenOut z st r).sup = s.sup ∧ (s.takenOut z st r).gcc = s.gcc ∧
    (s.takenOut z st r).store = s.store ∧ (s.takenOut z st r).link = s.link ∧
    (s.takenOut z st r).pending = s.pending ∧ (∀ g, (s.takenOut z st r).group g = s.group g) :=
  ⟨rfl, rfl, rfl, rfl, rfl, rfl, rfl, rfl, rfl, fun _ => rfl⟩

theorem takenOut_zone (s : State) (z y : ZoneId) (st : ZoneState) (r : HaltReason) :
    (s.takenOut z st r).zone y =
      if y = z then { s.zone z with state := st, demand := 0, leaseLeft := 0 } else s.zone y :=
  setZone_zone s z y _

theorem takenOut_queue (s : State) (z y : ZoneId) (st : ZoneState) (r : HaltReason) :
    (s.takenOut z st r).queue y = if y = z then haltedQueue r (s.queue z) else s.queue y :=
  setQueue_queue s z y _

/-! ### Withdrawals (R30, R133 step 4) -/

theorem withdrawZone_eq (r : HaltReason) (z : ZoneId) (s : State) : withdrawZone r z s =
    if (s.zone z).wants then s.takenOut z .idle r else s := by
  unfold withdrawZone
  rw [leaveService_eq (st := .idle) (by decide)]

theorem withdrawZone_zone (r : HaltReason) (z y : ZoneId) (s : State) : (withdrawZone r z s).zone y =
    if y = z then (s.zone z).idled else s.zone y := by
  rw [withdrawZone_eq, Zone.idled]
  split
  · exact takenOut_zone s z y _ _
  · split
    · next e => rw [e]
    · rfl

theorem withdrawZone_queue (r : HaltReason) (z y : ZoneId) (s : State) : (withdrawZone r z s).queue y =
    if y = z ∧ (s.zone z).wants then haltedQueue r (s.queue z) else s.queue y := by
  rw [withdrawZone_eq]
  split
  · next h => simp only [takenOut_queue, h, and_true]
  · next h => simp [h]

theorem withdrawZone_reports (r : HaltReason) (z : ZoneId) (s : State) : (withdrawZone r z s).reports =
    s.reports.offerAll (if (s.zone z).wants then haltReports z r (s.queue z) else []) := by
  rw [withdrawZone_eq]
  split <;> rfl

/-- R30: the zones of a list are withdrawn. -/
theorem forZones_withdrawZone (r : HaltReason) {zs : List ZoneId} (hzs : zs.Nodup) (s : State) :
    forZones zs (withdrawZone r) s = { s with
      zones := Vector.ofFn fun z => if z ∈ zs then (s.zone z).idled else s.zone z,
      orders := { s.orders with queues := Vector.ofFn fun z =>
        if z ∈ zs ∧ (s.zone z).wants then haltedQueue r (s.queue z) else s.queue z },
      reports := s.reports.offerAll
        ((zs.filter fun z => (s.zone z).wants).flatMap fun z => haltReports z r (s.queue z)) } := by
  induction zs generalizing s with
  | nil =>
    have hz : s.zones = Vector.ofFn fun z => s.zone z := by ext i hi; simp [State.zone]
    have hq : s.orders.queues = Vector.ofFn fun z => s.queue z := by ext i hi; simp [State.queue]
    simp [forZones, ← hz, ← hq]
  | cons z zs ih =>
    obtain ⟨hz, hzs⟩ := List.nodup_cons.mp hzs
    have other : ∀ y ∈ zs, y ≠ z := fun y hy e => hz (e ▸ hy)
    have hzone : ∀ y ∈ zs, (withdrawZone r z s).zone y = s.zone y := fun y hy => by
      rw [withdrawZone_zone, if_neg (other y hy)]
    have hqueue : ∀ y ∈ zs, (withdrawZone r z s).queue y = s.queue y := fun y hy => by
      rw [withdrawZone_queue, if_neg fun h => other y hy h.1]
    have hlater : ((zs.filter fun y => ((withdrawZone r z s).zone y).wants).flatMap fun y =>
        haltReports y r ((withdrawZone r z s).queue y)) =
        (zs.filter fun y => (s.zone y).wants).flatMap fun y => haltReports y r (s.queue y) := by
      rw [List.filter_congr fun y hy => by rw [hzone y hy]]
      exact List.flatMap_congr fun y hy => by rw [hqueue y (List.mem_of_mem_filter hy)]
    have step : forZones (z :: zs) (withdrawZone r) s =
        forZones zs (withdrawZone r) (withdrawZone r z s) := rfl
    have hzones : (fun y => if y ∈ zs then ((withdrawZone r z s).zone y).idled else
        (withdrawZone r z s).zone y) =
        fun y => if y ∈ z :: zs then (s.zone y).idled else s.zone y := by
      funext y
      simp only [withdrawZone_zone, List.mem_cons]
      by_cases e : y = z
      · subst e; simp [hz]
      · simp [e]
    have hqueues : (fun y => if y ∈ zs ∧ ((withdrawZone r z s).zone y).wants then
        haltedQueue r ((withdrawZone r z s).queue y) else (withdrawZone r z s).queue y) =
        fun y => if y ∈ z :: zs ∧ (s.zone y).wants then haltedQueue r (s.queue y) else s.queue y := by
      funext y
      simp only [withdrawZone_zone, withdrawZone_queue, List.mem_cons]
      by_cases e : y = z
      · subst e; simp [hz]
      · simp [e]
    have hreports : ((withdrawZone r z s).reports).offerAll ((zs.filter fun y => (s.zone y).wants).flatMap
        fun y => haltReports y r (s.queue y)) = s.reports.offerAll
        (((z :: zs).filter fun y => (s.zone y).wants).flatMap fun y => haltReports y r (s.queue y)) := by
      rw [withdrawZone_reports, ← offerAll_append, List.filter_cons]
      split <;> rfl
    rw [step, ih hzs, hlater, hreports, hzones, hqueues]
    simp only [withdrawZone_keeps, State.mk.injEq, OrderUnit.mk.injEq, true_and, and_true]
    rw [withdrawZone_eq]
    split <;> rfl

/-- R16: each zone stands in one group, so the zones of different groups differ. -/
theorem zonesOfGroups_nodup (s : State) {gs : List GroupId} (h : gs.Nodup) :
    (gs.flatMap s.zonesOf).Nodup := by
  refine List.nodup_flatMap.mpr ⟨fun g _ => allZones_nodup.filter _, ?_⟩
  refine h.imp fun {g g'} hne => ?_
  intro z hz hz'
  rw [mem_zonesOf] at hz hz'
  exact hne (hz.symm.trans hz')

/-- R133 step 4: the withdrawals of a list of groups are those of their zones. -/
theorem forGroups_withdrawGroup (r : HaltReason) (gs : List GroupId) (s : State) :
    forGroups gs (fun g => withdrawGroup g r) s = forZones (gs.flatMap s.zonesOf) (withdrawZone r) s := by
  induction gs generalizing s with
  | nil => rfl
  | cons g gs ih =>
    have hzones : (withdrawGroup g r s).zonesOf = s.zonesOf := by
      funext y
      have hcfg : ∀ z, ((withdrawGroup g r s).zone z).cfg = (s.zone z).cfg := fun z =>
        congrArg Prod.fst (withdrawGroup_setup z s g r)
      simp only [State.zonesOf, hcfg]
    have step : forGroups (g :: gs) (fun g => withdrawGroup g r) s =
        forGroups gs (fun g => withdrawGroup g r) (withdrawGroup g r s) := rfl
    rw [step, ih, hzones, List.flatMap_cons, forZones, forZones, List.foldl_append]
    rfl

/-- R133 step 4: the groups for which `hit` holds are withdrawn. -/
theorem forGroups_withdrawGroup_eq (hit : GroupId → Bool) (r : HaltReason) (s : State) :
    forGroups (allGroups.filter hit) (fun g => withdrawGroup g r) s = s.withdrawnOf hit r := by
  have hmem : ∀ z, z ∈ (allGroups.filter hit).flatMap s.zonesOf ↔ hit (s.zone z).cfg.group = true := by
    intro z
    simp only [List.mem_flatMap, List.mem_filter, mem_allGroups, true_and, mem_zonesOf]
    exact ⟨fun ⟨g, hg, e⟩ => e ▸ hg, fun h => ⟨_, h, rfl⟩⟩
  have hzones : (fun z => if z ∈ (allGroups.filter hit).flatMap s.zonesOf then (s.zone z).idled else
      s.zone z) = fun z => if (hit (s.zone z).cfg.group && (s.zone z).wants) = true then
        { s.zone z with state := .idle, demand := 0, leaseLeft := 0 } else s.zone z := by
    funext z
    simp only [hmem, Zone.idled, Bool.and_eq_true]
    by_cases h : hit (s.zone z).cfg.group = true <;> simp [h]
  have hreports : (((allGroups.filter hit).flatMap s.zonesOf).filter fun z => (s.zone z).wants) =
      (allGroups.filter hit).flatMap fun g =>
        allZones.filter fun z => (s.zone z).cfg.group == g && (s.zone z).wants := by
    rw [List.filter_flatMap]
    refine List.flatMap_congr fun g _ => ?_
    rw [State.zonesOf, List.filter_filter]
    exact List.filter_congr fun z _ => Bool.and_comm _ _
  rw [forGroups_withdrawGroup,
    forZones_withdrawZone r (zonesOfGroups_nodup s (allGroups_nodup.filter _)), hzones, hreports]
  simp only [hmem, State.withdrawnOf, Bool.and_eq_true, List.flatMap_assoc]

/-- R30: one group's withdrawal. -/
theorem withdrawGroup_eq (g : GroupId) (r : HaltReason) (s : State) :
    withdrawGroup g r s = s.withdrawnOf (fun y => y == g) r := by
  have hone : allGroups.filter (fun y => y == g) = [g] := by revert g; decide
  rw [← forGroups_withdrawGroup_eq, hone]
  rfl

/-! ### A group that opens (R127, R128) -/

theorem setGroup_setGroup (s : State) (g : GroupId) (v w : Group) :
    (s.setGroup g v).setGroup g w = s.setGroup g w := by
  simp [State.setGroup]

/-- R127, R128: the record of a CLOSED group that enters OPENING. -/
def State.openingFromClosed (s : State) (g : GroupId) : Group :=
  if s.isLocked then
    { s.group g with
      state := .opening, releasePending := true,
      timer := some { kind := .release, expiry := s.now + Config.releaseDeadline } }
  else
    { s.group g with
      state := .opening, coil := false, releasePending := false,
      timer := s.timerMs .opening s.gcc.openTimeout }

/-- R127: the record of a CLOSING group that enters OPENING. -/
def State.openingFromClosing (s : State) (g : GroupId) : Group :=
  { s.group g with
    state := .opening, coil := false, releasePending := false,
    timer := s.timerMs .opening s.gcc.openTimeout }

theorem openFromClosed_eq (g : GroupId) (s : State) : openFromClosed g s =
    testOpening g (withdrawGroup g .groupOpened (s.setGroup g (s.openingFromClosed g))) := by
  unfold openFromClosed State.openingFromClosed releaseCoil
  cases s.isLocked <;> simp [setGroup_setGroup, State.timerMs, State.afterMs]

theorem openFromClosing_eq (g : GroupId) (s : State) : openFromClosing g s =
    testOpening g (withdrawGroup g .groupOpened (s.setGroup g (s.openingFromClosing g))) := by
  simp [openFromClosing, State.openingFromClosing, releaseCoil, setGroup_setGroup, State.timerMs,
    State.afterMs]

end Sys2Proof.Machine
end

section
/-! SUPPORT. One induction over the commands: a property of the eight blocks that do their work on the power
path is kept by every command when the parts of the commands keep it. -/

namespace Sys2Proof.Machine

/-! ### The blocks of the power path -/

/-- The states agree in every block but the report queue and the host link. -/
def State.sameBlocks (t s : State) : Prop :=
  t.mtu = s.mtu ∧ t.zones = s.zones ∧ t.orders = s.orders ∧ t.planner = s.planner ∧
  t.switch = s.switch ∧ t.sup = s.sup ∧ t.gcc = s.gcc ∧ t.store = s.store

theorem atTime_sameBlocks (s : State) (t : Nat) : (s.atTime t).sameBlocks s := by
  simp [State.sameBlocks]

theorem txChoose_sameBlocks (s : State) : (txChoose s).sameBlocks s := by
  simp [State.sameBlocks]

theorem startUp_sameBlocks (cause : ResetCause) (s : State) : (startUp cause s).sameBlocks s := by
  simp [State.sameBlocks]

theorem count_sameBlocks (s : State) (f : LinkCounters → LinkCounters) : (s.count f).sameBlocks s := by
  simp [State.sameBlocks]

theorem setRx_sameBlocks (s : State) (r : Receiver) : (s.setRx r).sameBlocks s := by
  simp [State.sameBlocks]

theorem storeReply_sameBlocks (num : BitVec 4) (type : Byte) (c : ResultCode) (fs : List Byte) (s : State) :
    (storeReply num type c fs s).sameBlocks s := by
  simp [State.sameBlocks]

theorem applyAck_sameBlocks (a : Byte) (s : State) : (applyAck a s).sameBlocks s := by
  simp [State.sameBlocks]

theorem replay_sameBlocks (s : State) : (replay s).sameBlocks s := by
  simp [State.sameBlocks]

theorem abandonFraming_sameBlocks (s : State) : (abandonFraming s).sameBlocks s := by
  simp [State.sameBlocks, abandonFraming]

theorem gapExpiry_sameBlocks (s : State) : (gapExpiry s).sameBlocks s := by
  unfold gapExpiry
  split <;> simp [State.sameBlocks, abandonFraming]

theorem frameEnds_sameBlocks (s : State) : (frameEnds s).sameBlocks s := by
  unfold frameEnds
  split
  · simp [State.sameBlocks]
  · simp [State.sameBlocks]
  · dsimp only
    split <;> simp [State.sameBlocks]

theorem retransmitExpiry_sameBlocks (s : State) : (retransmitExpiry s).sameBlocks s := by
  unfold retransmitExpiry
  split <;> simp [State.sameBlocks]

/-! ### The parts of the commands -/

/-- A property of the power path that every part of a command keeps, in the states in which the command comes
to that part. -/
structure KeptByParts (P : State → Prop) : Prop where
  /-- it reads neither the clock nor the report queue, the host link and the waiting commands -/
  frame : ∀ {s t : State}, t.sameBlocks s → P s → P t
  power : ∀ now b raw stop pending, P (State.blank now b raw stop .powerOn pending)
  pin : ∀ {s : State} now b raw stop pending, P s →
    P (State.blank now b raw stop s.store.pinReset pending)
  /-- the mains timing unit counts an edge that makes no crossing, or measures one that does -/
  retime : ∀ {s : State} (m : Mtu), (m.state = .locked ↔ s.mtu.state = .locked) → m.len = s.mtu.len →
    m.frame = s.mtu.frame → (m.state = .locked → m.h = s.mtu.h) → P s → P { s with mtu := m }
  lock : ∀ {s : State} order, s.mtu.state = .searching → 8 ≤ s.mtu.len → s.mtu.pendingLen = s.mtu.len →
    P s → P (lockMains order s)
  cross : ∀ {s : State} order ref syn, s.mtu.sound → s.mtu.state = .locked → P s →
    P (crossLocked order ref syn s)
  lose : ∀ {s : State}, s.mtu.state = .locked → P s → P (loseMains s)
  point : ∀ {s : State} cs first, s.mtu.state = .locked → P s → P (midPoint cs first s)
  reading : ∀ {s : State} v, P s → P (takeReading v s)
  raw : ∀ {s : State} line level, P s → P (rawChange line level s)
  aux : ∀ {s : State} g, P s → P (auxChange g s)
  stop : ∀ {s : State}, P s → P (stopChange s)
  closeTimer : ∀ {s : State} g, (s.group g).runs .close = true → P s → P (closeFailed g s)
  releaseTimer : ∀ {s : State} g, (s.group g).runs .release = true → P s → P (releaseCoil g s)
  openTimer : ∀ {s : State} g, (s.group g).runs .opening = true → P s → P (openExpired g s)
  verifyTimer : ∀ {s : State} g, (s.group g).runs .verify = true → P s → P (verifyExpired g s)
  stuckTimer : ∀ {s : State} g, (s.group g).runs .stuckContact = true → P s → P (weld g .auxStuck s)
  answered : ∀ {s : State} r, s.mtu.sound → r.inRange s.mtu.len = true → P s → P (answer r s).state

namespace KeptByParts

variable {P : State → Prop} (k : KeptByParts P)

include k

/-! ### Edges and windows -/

theorem expireWindow (order : List Taker) {s : State} (hm : s.mtu.sound) (hl : s.mtu.state = .locked)
    (hs : P s) : P (expireWindow order s) := by
  unfold Machine.expireWindow
  split
  · next ref _ =>
    have ht : P (s.atTime (ref + Config.window)) := k.frame (atTime_sameBlocks s _) hs
    dsimp only
    split
    · exact k.lose hl ht
    · exact k.cross order _ true (hm.coasts 1) hl (k.retime _ Iff.rfl rfl rfl (fun _ => rfl) ht)
  · exact hs

theorem settleWindow (order : List Taker) (t : Nat) {s : State} (hm : s.mtu.sound) (hs : P s) :
    P (settleWindow order t s) := by
  have expire : ∀ {u : State}, u.mtu.sound ∧ P u →
      (if u.windowOver t then Machine.expireWindow order u else u).mtu.sound ∧
      P (if u.windowOver t then Machine.expireWindow order u else u) := by
    rintro u ⟨hum, hu⟩
    split
    · next h =>
      have hl := state_of_windowOver h
      exact ⟨expireWindow_keeps_mtu_sound order hum hl, k.expireWindow order hum hl hu⟩
    · exact ⟨hum, hu⟩
  exact (expire (expire ⟨hm, hs⟩)).2

theorem searchEdge (order : List Taker) {i : Nat} {s : State} (hm : s.mtu.sound)
    (hst : s.mtu.state = .searching) (hs : P s) : P (searchEdge order i s) := by
  obtain ⟨-, -, -, ⟨hge, -⟩, -, -, -, -, -, -, hout⟩ := hm
  obtain ⟨-, -, hlen⟩ := hout (by simp [hst])
  have counted := k.retime { s.mtu.withHistory (appendInterval s.mtu.history i) with
    run := s.mtu.run + 1, refTime := some s.now } Iff.rfl rfl rfl (fun _ => rfl) hs
  unfold Machine.searchEdge
  dsimp only
  split
  · exact k.lock order hst hge hlen.symm counted
  · exact counted

theorem realCrossing (order : List Taker) {i : Nat} {s : State} (hm : s.mtu.sound)
    (hl : s.mtu.state = .locked) (h1 : 700 ≤ i) (h2 : i ≤ 1250) (hs : P s) :
    P (realCrossing order i s) := by
  unfold Machine.realCrossing
  dsimp only
  split
  · exact k.cross order _ false hm hl hs
  · exact k.cross order _ false (hm.measured hl h1 h2) hl (k.retime _ Iff.rfl rfl rfl (fun _ => rfl) hs)

theorem classedEdge (order : List Taker) {r : Nat} {s : State} (hm : s.mtu.sound)
    (hlost : s.mtu.state ≠ .lost) (hs : P s) : P (classedEdge order r s) := by
  rcases Nat.lt_or_ge (s.now - r) 700 with h1 | h1
  · rw [classedEdge_of_short order h1]
    exact k.retime _ Iff.rfl rfl rfl (fun _ => rfl) hs
  · cases hst : s.mtu.state with
    | lost => exact absurd hst hlost
    | searching =>
      rcases Nat.lt_or_ge 1250 (s.now - r) with h2 | h2
      · rw [classedEdge_of_long order hst h2]
        exact k.retime _ Iff.rfl rfl rfl (fun _ => rfl) hs
      · rw [classedEdge_of_valid_searching order hst h1 h2]
        exact k.searchEdge order hm hst hs
    | locked =>
      rcases Nat.lt_or_ge 1250 (s.now - r) with h2 | h2
      · have hn : ¬ s.now - r < Config.shortestValid := Nat.not_lt.mpr h1
        have hw : ¬ s.now - r ≤ Config.window := Nat.not_le.mpr h2
        simpa [Machine.classedEdge, hn, hw, State.isLocked, hst] using hs
      · rw [classedEdge_of_valid_locked order hst h1 h2]
        exact k.realCrossing order hm hst h1 h2 hs

theorem edge (order : List Taker) {s : State} (hm : s.mtu.sound) (hs : P s) : P (edge order s) := by
  by_cases hlost : s.mtu.state = .lost
  · rw [edge_of_lost order hlost]
    exact k.retime _ (by simp [hlost]) rfl rfl nofun hs
  · cases hr : s.mtu.refTime with
    | none =>
      rw [edge_of_no_ref order hlost hr]
      exact k.retime _ Iff.rfl rfl rfl (fun _ => rfl) hs
    | some r =>
      rw [edge_of_ref order hlost hr]
      exact k.classedEdge order hm hlost hs

theorem edgeAt (order : List Taker) (time : Nat) {s : State} (hm : s.mtu.sound) (hs : P s) :
    P (edgeAt order time s) :=
  k.edge order (settleWindow_keeps_mtu_sound order _ hm)
    (k.frame (atTime_sameBlocks _ _) (k.settleWindow order _ hm hs))

/-! ### Timers -/

theorem onExpiry (g : GroupId) (kind : TimerKind) {f : State → State}
    (hf : ∀ {u : State}, (u.group g).runs kind = true → P u → P (f u)) {s : State} (hs : P s) :
    P (onExpiry g kind f s) := by
  unfold Machine.onExpiry
  split
  · next h => exact hf h (k.frame (atTime_sameBlocks s _) hs)
  · exact hs

theorem chosen {s : State} (hs : P s) : P (txChoose s) := k.frame (txChoose_sameBlocks s) hs

/-! ### Request frames -/

theorem execute (num : BitVec 4) (type : Byte) (p : Parsed) {s : State} (hm : s.mtu.sound) (hs : P s) :
    P (execute num type p s) := by
  unfold Machine.execute
  split
  · exact k.frame (storeReply_sameBlocks _ _ _ _ s) hs
  · split
    · next hr => exact k.frame (storeReply_sameBlocks _ _ _ _ _) (k.answered _ hm hr hs)
    · exact k.frame (storeReply_sameBlocks _ _ _ _ s) hs

theorem serveFrame (num : BitVec 4) (ack type : Byte) (p : Parsed) {s : State} (hm : s.mtu.sound)
    (hs : P s) : P (serveFrame num ack type p s) := by
  have ht := k.frame (applyAck_sameBlocks ack (s.count _))
    (k.frame (count_sameBlocks s fun c => { c with framesReceived := bump c.framesReceived }) hs)
  unfold Machine.serveFrame handleRequest
  refine k.chosen ?_
  split
  · exact k.frame (count_sameBlocks _ _) ht
  · split
    · exact k.frame (replay_sameBlocks _) ht
    · exact k.execute num type p (by simpa using hm) ht

theorem frameComplete (bytes : List Byte) {s : State} (hm : s.mtu.sound) (hs : P s) :
    P (frameComplete bytes s) := by
  unfold Machine.frameComplete validFrame
  split
  · split
    · exact k.serveFrame _ _ _ _ hm hs
    · exact k.frame (count_sameBlocks s _) hs
  · exact k.frame (count_sameBlocks s _) hs

theorem goodByte (b : Byte) {s : State} (hm : s.mtu.sound) (hs : P s) : P (goodByte b s) := by
  have setRx : ∀ r, P (s.setRx r) := fun r => k.frame (setRx_sameBlocks s r) hs
  unfold Machine.goodByte
  dsimp only
  split
  · split
    · exact setRx _
    · exact hs
  · split
    · exact setRx _
    · exact k.frame (count_sameBlocks _ _) (setRx _)
  · exact setRx _
  · split
    · exact k.frameComplete _ hm (setRx _)
    · exact setRx _

theorem receiveByte (b : Byte) (ok : Bool) {s : State} (hm : s.mtu.sound) (hs : P s) :
    P (receiveByte b ok s) := by
  unfold Machine.receiveByte
  split
  · exact k.goodByte b hm hs
  · split
    · exact hs
    · exact k.frame (abandonFraming_sameBlocks s) hs

theorem byteAt (t : Nat) (b : Byte) (ok : Bool) {s : State} (hm : s.mtu.sound) (hs : P s) :
    P (byteAt t b ok s) := by
  unfold Machine.byteAt
  split
  · exact k.receiveByte b ok (by simpa using hm)
      (k.frame (atTime_sameBlocks _ t) (k.frame (gapExpiry_sameBlocks s) hs))
  · exact k.receiveByte b ok hm (k.frame (atTime_sameBlocks s t) hs)

/-! ### Every command -/

/-- What the parts of the commands keep, every command keeps. -/
theorem exec (i : Instr) {s t : State} (hm : s.mtu.sound) (hs : P s) (h : exec i s = .next t) : P t := by
  have request : ∀ {hd : Header} {r : Request}, i.requestOf = some (hd, r) → P t := by
    intro hd r hreq
    rw [exec_of_requestOf s hreq] at h
    cases h
    exact k.serveFrame _ _ _ _ hm (k.frame (atTime_sameBlocks s _) hs)
  cases i with
  | powerOn => cases h; exact k.frame (startUp_sameBlocks _ _) (k.power _ _ _ _ _)
  | pinReset => cases h; exact k.frame (startUp_sameBlocks _ _) (k.pin _ _ _ _ _ hs)
  | zxEdge time order => cases h; exact k.chosen (k.edgeAt order time hm hs)
  | windowExpiry order =>
    cases h
    split
    · next hl => exact k.chosen (k.expireWindow order hm (by simpa [State.isLocked] using hl) hs)
    · exact hs
  | midHalfCyclePoint cs first =>
    cases h
    split
    · split
      · next hl =>
        exact k.chosen (k.point cs first (by simpa [State.isLocked] using hl)
          (k.frame (atTime_sameBlocks s _) hs))
      · exact hs
    · exact hs
  | isenseReading => cases h; exact k.reading _ hs
  | auxChange g =>
    cases h
    split
    · exact k.chosen (k.aux g hs)
    · exact hs
  | stopChange =>
    cases h
    split
    · exact k.chosen (k.stop hs)
    · exact hs
  | closeTimerExpiry g => cases h; exact k.onExpiry g _ (fun hr hu => k.chosen (k.closeTimer g hr hu)) hs
  | releaseDeadlineExpiry g => cases h; exact k.onExpiry g _ (fun hr hu => k.releaseTimer g hr hu) hs
  | openTimerExpiry g => cases h; exact k.onExpiry g _ (fun hr hu => k.chosen (k.openTimer g hr hu)) hs
  | verifyTimerExpiry g => cases h; exact k.onExpiry g _ (fun hr hu => k.chosen (k.verifyTimer g hr hu)) hs
  | stuckContactTimerExpiry g =>
    cases h; exact k.onExpiry g _ (fun hr hu => k.chosen (k.stuckTimer g hr hu)) hs
  | rxByte time byte ok => cases h; exact k.byteAt time byte ok hm hs
  | byteGapTimeout => cases h; exact k.frame (gapExpiry_sameBlocks s) hs
  | txFrameEnd time =>
    cases h; exact k.frame (frameEnds_sameBlocks _) (k.frame (atTime_sameBlocks s time) hs)
  | retransmitTimerExpiry => cases h; exact k.frame (retransmitExpiry_sameBlocks s) hs
  | rawInputChange time => cases h; exact k.raw _ _ (k.frame (atTime_sameBlocks s time) hs)
  | _ => exact request rfl

/-- What the parts of the commands keep, every step keeps. -/
theorem step {s t : State} (hm : s.mtu.sound) (hs : P s) (h : step s = .next t) : P t := by
  unfold Machine.step at h
  split at h
  · cases h
    exact hs
  · next c cs _ =>
    exact k.exec c (s := { s with pending := cs }) hm
      (k.frame (s := s) ⟨rfl, rfl, rfl, rfl, rfl, rfl, rfl, rfl⟩ hs) h

end KeptByParts

end Sys2Proof.Machine
end

section
/-! SUPPORT. The zone table at a frame boundary: what it makes of each zone's record, and of the whole state.
Settles O24. -/

namespace Sys2Proof.Machine

/-- Writing and reporting each zone of a list from its record before is one write of the table and one run of
reports. -/
theorem forZones_setZone_offer (g : Zone → Zone) (r : ZoneId → Zone → List Report) {zs : List ZoneId}
    (h : zs.Nodup) (s : State) :
    forZones zs (fun z u => { u.setZone z (g (u.zone z)) with
      reports := u.reports.offerAll (r z (u.zone z)) }) s =
    { s with
      zones := Vector.ofFn fun z => if z ∈ zs then g (s.zone z) else s.zone z,
      reports := s.reports.offerAll (zs.flatMap fun z => r z (s.zone z)) } := by
  induction zs generalizing s with
  | nil =>
    have hz : s.zones = Vector.ofFn fun z => s.zone z := by ext i hi; simp [State.zone]
    simp [forZones, ← hz]
  | cons z zs ih =>
    obtain ⟨hz, hzs⟩ := List.nodup_cons.mp h
    let s' : State := { s.setZone z (g (s.zone z)) with reports := s.reports.offerAll (r z (s.zone z)) }
    have hzone : ∀ y, s'.zone y = if y = z then g (s.zone z) else s.zone y :=
      fun y => setZone_zone s z y _
    have hlater : (zs.flatMap fun y => r y (s'.zone y)) = zs.flatMap fun y => r y (s.zone y) :=
      List.flatMap_congr fun y hy => by
        rw [hzone, if_neg fun e : y = z => hz (e ▸ hy)]
    have hzones : (fun y => if y ∈ zs then g (s'.zone y) else s'.zone y) =
        fun y => if y ∈ z :: zs then g (s.zone y) else s.zone y := by
      funext y
      simp only [hzone, List.mem_cons]
      by_cases e : y = z
      · subst e; simp [hz]
      · simp [e]
    refine (ih hzs s').trans ?_
    rw [hzones, hlater, List.flatMap_cons, offerAll_append]
    rfl

/-! ### One zone at a boundary (R23, R24, R26) -/

/-- R26: a demand above the new L becomes the new L. -/
def Zone.cutTo (len : Nat) (v : Zone) : Zone :=
  if v.state = .demand ∧ len < v.demand then { v with demand := len } else v

/-- R23, R24: a lease runs down by one, and gives way to the fallback where it lapses. -/
def Zone.ranDown (len : Nat) (v : Zone) : Zone :=
  if v.state = .demand ∧ v.leaseLeft = 1 then
    { v with state := if min v.cfg.fallback len = 0 then .idle else .demand,
             demand := min v.cfg.fallback len, leaseLeft := 0 }
  else if v.state = .demand then { v with leaseLeft := v.leaseLeft - 1 }
  else v

/-- R24: the report of a lapsed lease. -/
def Zone.lapseReports (len : Nat) (z : ZoneId) (v : Zone) : List Report :=
  if v.state = .demand ∧ v.leaseLeft = 1 then [.leaseLapsed z (min v.cfg.fallback len)] else []

theorem reduceDemand_eq (len : Nat) (z : ZoneId) (s : State) :
    reduceDemand len z s = s.setZone z ((s.zone z).cutTo len) := by
  unfold reduceDemand Zone.cutTo
  split
  · rfl
  · rw [setZone_self]

theorem ranDown_of_no_lease (len : Nat) {v : Zone} (h : v.leaseLeft = 0) : v.ranDown len = v := by
  cases v
  simp_all [Zone.ranDown]

theorem lapseReports_of_ne {len : Nat} {v : Zone} (z : ZoneId) (h : v.leaseLeft ≠ 1) :
    v.lapseReports len z = [] := if_neg fun h' => h h'.2

theorem runDownLease_eq (len : Nat) (z : ZoneId) (s : State) :
    runDownLease len z s = { s.setZone z ((s.zone z).ranDown len) with
      reports := s.reports.offerAll ((s.zone z).lapseReports len z) } := by
  by_cases h1 : (s.zone z).leaseLeft = 1
  · unfold runDownLease Zone.ranDown Zone.lapseReports
    by_cases hd : (s.zone z).state = .demand
    · simp only [hd, h1, Nat.one_pos, and_self, if_true]
      rfl
    · simp only [hd, false_and, if_false, setZone_self, offerAll_nil]
  · rw [lapseReports_of_ne z h1, offerAll_nil]
    by_cases h0 : (s.zone z).leaseLeft = 0
    · rw [ranDown_of_no_lease len h0, setZone_self]
      simp [runDownLease, h0]
    · unfold runDownLease Zone.ranDown
      have hpos : 0 < (s.zone z).leaseLeft := Nat.pos_of_ne_zero h0
      by_cases hd : (s.zone z).state = .demand
      · simp only [hd, h1, hpos, and_false, and_self, if_false, if_true]
        rfl
      · simp only [hd, false_and, if_false, setZone_self]

/-! ### The whole table -/

/-- R23, R24, R26: the zone table at a frame boundary. -/
theorem zonesAtBoundary_eq (len : Nat) (lChanged : Bool) (s : State) :
    zonesAtBoundary len lChanged s = { s with
      zones := Vector.ofFn fun z =>
        (if lChanged then (s.zone z).cutTo len else s.zone z).ranDown len,
      reports := s.reports.offerAll (allZones.flatMap fun z => (s.zone z).lapseReports len z) } := by
  have hrun : runDownLease len = fun z u => { u.setZone z ((u.zone z).ranDown len) with
      reports := u.reports.offerAll ((u.zone z).lapseReports len z) } := by
    funext z u
    exact runDownLease_eq len z u
  have hcut : reduceDemand len = fun z u => u.setZone z ((u.zone z).cutTo len) := by
    funext z u
    exact reduceDemand_eq len z u
  have hlapse : ∀ (z : ZoneId) (v : Zone), (v.cutTo len).lapseReports len z = v.lapseReports len z := by
    intro z v
    unfold Zone.cutTo Zone.lapseReports
    split <;> rfl
  have cutZone : ∀ z, ({ s with zones := Vector.ofFn fun z => (s.zone z).cutTo len } : State).zone z =
      (s.zone z).cutTo len := fun z => by simp [State.zone]
  unfold zonesAtBoundary
  cases lChanged
  · rw [hrun, if_neg Bool.false_ne_true, forZones_setZone_offer _ _ allZones_nodup]
    simp
  · rw [hrun, if_pos rfl, hcut, forZones_setZone (fun _ v => v.cutTo len) allZones_nodup,
      forZones_setZone_offer _ _ allZones_nodup]
    simp [cutZone, hlapse]

/-- Settles O24: `zonesAtBoundary_eq`, with the record of each zone read case by case. -/
theorem zoneTableRunsDownTheLeases : Obligations.ZoneTableRunsDownTheLeases := by
  intro c s hb cutDemand lapses fallback
  have hzone : ∀ z, (if c.lChanged then (s.zone z).cutTo c.len else s.zone z).ranDown c.len =
      if lapses z then
        { s.zone z with
          state := if fallback z = 0 then .idle else .demand, demand := fallback z, leaseLeft := 0 }
      else if (s.zone z).state = .demand then
        { s.zone z with demand := cutDemand z, leaseLeft := (s.zone z).leaseLeft - 1 }
      else s.zone z := by
    intro z
    simp only [lapses, fallback, cutDemand, Zone.cutTo, Zone.ranDown]
    by_cases hd : (s.zone z).state = .demand <;> by_cases hl : c.lChanged = true <;>
      by_cases hlt : c.len < (s.zone z).demand <;> simp [hd, hl, hlt]
  have hreports : (allZones.flatMap fun z => (s.zone z).lapseReports c.len z) =
      allZones.filterMap fun z => if lapses z then some (.leaseLapsed z (fallback z)) else none := by
    rw [List.filterMap_eq_flatMap_toList]
    refine List.flatMap_congr fun z _ => ?_
    simp only [Zone.lapseReports, lapses, fallback]
    split <;> rfl
  simp only [takeCrossing, hb, if_true, zonesAtBoundary_eq, hzone, hreports]

end Sys2Proof.Machine
end

section
/-! SUPPORT. The zone table and the order unit stay sound: what each zone's record and queue keep together,
what each operation keeps of all of them, and the commands by their parts. Settles O6. -/

namespace Sys2Proof.Machine

/-! ### One zone's record with its queue -/

/-- R18, R41, R42, R55: a zone's record and its queue, under an L and a mains state. -/
def cellSound (locked : Prop) (len : Nat) (v : Zone) (q : List Order) : Prop :=
  v.sound len q ∧ queueSound q ∧ (¬ locked → ∀ o ∈ q, o.state = .queued)

variable {locked : Prop} {len : Nat} {v : Zone} {q q' : List Order}

theorem queueSound.sublist (h : queueSound q) (hs : q'.Sublist q) : queueSound q' := by
  obtain ⟨hlen, htags, horders, htail⟩ := h
  exact ⟨hs.length_le.trans hlen, (hs.map _).nodup htags, fun o ho => horders o (hs.subset ho),
    fun o ho => htail o (hs.tail.subset ho)⟩

/-- R47, R50, R52: the head of a queue is rewritten under its tag. -/
theorem queueSound.head {o o' : Order} {os : List Order} (h : queueSound (o :: os)) (ht : o'.tag = o.tag)
    (ho : o'.sound) : queueSound (o' :: os) := by
  obtain ⟨hlen, htags, horders, htail⟩ := h
  refine ⟨hlen, by simpa [ht] using htags, fun x hx => ?_, htail⟩
  rcases List.mem_cons.mp hx with rfl | hx
  · exact ho
  · exact horders x (List.mem_cons_of_mem _ hx)

/-- R41: an order that is HALTING has the counts it had. -/
theorem Order.sound.halting {o : Order} (h : o.sound) (r : HaltReason) :
    { o with state := .halting r }.sound := by
  obtain ⟨htag, hsum, hrem, hcap, -⟩ := h
  exact ⟨htag, hsum, hrem, hcap, nofun, nofun, nofun⟩

/-- R47: a fired half-cycle that leaves some. -/
theorem Order.sound.fire {o : Order} (h : o.sound) (hr : o.fire.remaining ≠ 0) : o.fire.sound := by
  obtain ⟨htag, hsum, hrem, hcap, -⟩ := h
  refine ⟨htag, ?_, Nat.pos_of_ne_zero hr, hcap, nofun, nofun, fun _ => Nat.succ_pos _⟩
  simp only [Order.fire]
  omega

/-- R45: a QUEUED order becomes PLANNED. -/
theorem Order.sound.marked {o : Order} (h : o.sound) : o.marked.sound := by
  unfold Order.marked
  split
  · next hq =>
    obtain ⟨htag, hsum, hrem, hcap, hfired, -⟩ := h
    exact ⟨htag, hsum, hrem, hcap, nofun, fun _ => hfired hq, nofun⟩
  · exact h

/-- R52: what a halt leaves of a queue: nothing, or its head HALTING. -/
theorem haltedQueue_cases (r : HaltReason) (q : List Order) : haltedQueue r q = [] ∨
    ∃ o os r', q = o :: os ∧ o.state ≠ .queued ∧ haltedQueue r q = [{ o with state := .halting r' }] := by
  cases q with
  | nil => exact .inl rfl
  | cons o os =>
    cases ho : o.state with
    | queued => exact .inl (by simp [haltedQueue, ho])
    | planned => exact .inr ⟨o, os, r, rfl, by simp [ho], by simp [haltedQueue, ho]⟩
    | active => exact .inr ⟨o, os, r, rfl, by simp [ho], by simp [haltedQueue, ho]⟩
    | halting r' =>
      have hself : { o with state := .halting r' } = o := by rw [← ho]
      exact .inr ⟨o, os, r', rfl, by simp [ho], by simp only [haltedQueue, ho, hself]⟩

namespace cellSound

variable (h : cellSound locked len v q)

include h

/-- A zone that is not DOSING keeps HALTING orders only (R18). -/
theorem halting (hd : v.state ≠ .dosing) : ∀ o ∈ q, o.isHalting = true := by
  obtain ⟨⟨-, -, -, -, -, hh⟩, -⟩ := h
  exact hh hd

theorem configured (hd : v.state ≠ .disabled) : v.configured = true := by
  obtain ⟨⟨-, -, -, hc, -⟩, -⟩ := h
  exact hc hd

/-- What is said of a queue in LOCKED is said in every mains state. -/
theorem mono {locked' : Prop} (hl : locked → locked') : cellSound locked' len v q := by
  obtain ⟨hv, hq, hu⟩ := h
  exact ⟨hv, hq, fun h' => hu fun h'' => h' (hl h'')⟩

/-- A longer frame holds every demand. -/
theorem len_le {len' : Nat} (hlen : len ≤ len') : cellSound locked len' v q := by
  obtain ⟨⟨hc, hdem, hrest⟩, hq, hu⟩ := h
  refine ⟨⟨hc, fun hd => ?_, hrest⟩, hq, hu⟩
  obtain ⟨⟨h1, h2⟩, hlease⟩ := hdem hd
  exact ⟨⟨h1, h2.trans hlen⟩, hlease⟩

/-- L matters to a zone in DEMAND alone. -/
theorem len_of_not_demand (hd : v.state ≠ .demand) (len' : Nat) : cellSound locked len' v q := by
  obtain ⟨⟨hc, -, hrest⟩, hq, hu⟩ := h
  exact ⟨⟨hc, fun h' => absurd h' hd, hrest⟩, hq, hu⟩

/-- R18: a zone enters a state without a demand, over a queue of HALTING orders or, in DOSING, of any. -/
theorem rest {st : ZoneState} (hdem : st ≠ .demand) (hconf : st ≠ .disabled → v.configured = true)
    (hq : queueSound q') (hu : ¬ locked → ∀ o ∈ q', o.state = .queued) (hdose : st = .dosing → q' ≠ [])
    (hhalt : st ≠ .dosing → ∀ o ∈ q', o.isHalting = true) :
    cellSound locked len { v with state := st, demand := 0, leaseLeft := 0 } q' := by
  obtain ⟨⟨hc, -⟩, -⟩ := h
  exact ⟨⟨hc, fun h' => absurd h' hdem, fun _ => ⟨rfl, rfl⟩, hconf, hdose, hhalt⟩, hq, hu⟩

/-- R29: a zone taken out of service, with its orders halted. -/
theorem takenOut {st : ZoneState} (hdem : st ≠ .demand) (hdose : st ≠ .dosing)
    (hconf : st ≠ .disabled → v.configured = true) (r : HaltReason) :
    cellSound locked len { v with state := st, demand := 0, leaseLeft := 0 } (haltedQueue r q) := by
  obtain ⟨hv, ⟨hlen, htags, horders, htail⟩, hu⟩ := h
  rcases haltedQueue_cases r q with e | ⟨o, os, r', rfl, ho, e⟩
  · rw [e]
    exact cellSound.rest ⟨hv, ⟨hlen, htags, horders, htail⟩, hu⟩ hdem hconf
      ⟨Nat.zero_le _, List.nodup_nil, nofun, nofun⟩ (fun _ => nofun) (fun h' => absurd h' hdose) (fun _ => nofun)
  · rw [e]
    have hsound : Order.sound { o with state := .halting r' } := (horders o List.mem_cons_self).halting r'
    refine cellSound.rest ⟨hv, ⟨hlen, htags, horders, htail⟩, hu⟩ hdem hconf
      ⟨Nat.le_add_left 1 3, List.nodup_singleton _, ?_, nofun⟩ (fun hl => ?_) (fun h' => absurd h' hdose) (fun _ => ?_)
    · simpa using hsound
    · exact absurd (hu hl o List.mem_cons_self) ho
    · simp [Order.isHalting]

/-- R28: orders go from a zone's queue, and a DOSING zone left with none is IDLE. -/
theorem shrink (hq : queueSound q') (hu : ¬ locked → ∀ o ∈ q', o.state = .queued)
    (hhalt : v.state ≠ .dosing → ∀ o ∈ q', o.isHalting = true) :
    cellSound locked len (if q' = [] ∧ v.state = .dosing then { v with state := .idle } else v) q' := by
  obtain ⟨⟨hc, hdem, hnodem, hconf, hne, hh⟩, -⟩ := h
  split
  · next e =>
    obtain ⟨rfl, hst⟩ := e
    exact ⟨⟨hc, nofun, fun _ => hnodem (by simp [hst]), fun _ => hconf (by simp [hst]), nofun, fun _ => nofun⟩,
      hq, hu⟩
  · next e => exact ⟨⟨hc, hdem, hnodem, hconf, fun hst hnil => e ⟨hnil, hst⟩, hhalt⟩, hq, hu⟩

/-- The queue of a DOSING zone is rewritten, leaving some order. -/
theorem requeue (hst : v.state = .dosing) (hq : queueSound q') (hu : ¬ locked → ∀ o ∈ q', o.state = .queued)
    (hne : q' ≠ []) : cellSound locked len v q' := by
  have hs := h.shrink hq hu (fun h' => absurd hst h')
  rwa [if_neg fun e => hne e.1] at hs

/-- R26: a demand that is cut to an L lies within it. -/
theorem cutTo {l : Nat} (hl : 1 ≤ l) : cellSound locked l (v.cutTo l) q := by
  obtain ⟨⟨hc, hdem, hnodem, hconf, hne, hh⟩, hq, hu⟩ := h
  unfold Zone.cutTo
  split
  · next e =>
    obtain ⟨hst, -⟩ := e
    obtain ⟨-, hlease⟩ := hdem hst
    exact ⟨⟨hc, fun _ => ⟨⟨hl, Nat.le_refl l⟩, hlease⟩, fun h' => absurd hst h', hconf, hne, hh⟩, hq, hu⟩
  · next e =>
    refine ⟨⟨hc, fun hst => ?_, hnodem, hconf, hne, hh⟩, hq, hu⟩
    obtain ⟨⟨h1, -⟩, hlease⟩ := hdem hst
    exact ⟨⟨h1, Nat.le_of_not_lt fun hlt => e ⟨hst, hlt⟩⟩, hlease⟩

/-- R23, R24: a zone's lease runs down, or gives way to the fallback. -/
theorem ranDown {l : Nat} (hle : l ≤ len) : cellSound locked len (v.ranDown l) q := by
  obtain ⟨⟨hc, hdem, hnodem, hconf, hne, hh⟩, hq, hu⟩ := h
  unfold Zone.ranDown
  split
  · next e =>
    obtain ⟨hst, -⟩ := e
    have hhalt := hh (by simp [hst])
    have hcf := hconf (by simp [hst])
    split
    · next hz => exact ⟨⟨hc, nofun, fun _ => ⟨hz, rfl⟩, fun _ => hcf, nofun, fun _ => hhalt⟩, hq, hu⟩
    · next hz =>
      exact ⟨⟨hc, fun _ => ⟨⟨Nat.pos_of_ne_zero hz, (Nat.min_le_right _ _).trans hle⟩, Nat.zero_le _⟩,
        fun h' => absurd rfl h', fun _ => hcf, nofun, fun _ => hhalt⟩, hq, hu⟩
  · split
    · next hst =>
      obtain ⟨hd, hlease⟩ := hdem hst
      exact ⟨⟨hc, fun _ => ⟨hd, (Nat.sub_le _ _).trans hlease⟩, fun h' => absurd hst h', hconf, hne, hh⟩,
        hq, hu⟩
    · exact ⟨⟨hc, hdem, hnodem, hconf, hne, hh⟩, hq, hu⟩

end cellSound

end Sys2Proof.Machine
end

section
/-! SUPPORT. What each operation keeps of the zones' records with their queues, and the commands by their
parts. Settles O6. -/

namespace Sys2Proof.Machine

/-! ### All records with their queues -/

/-- R18, R41, R42, R55: every zone's record and queue, under an L and a mains state. -/
def State.cellsSound (s : State) (locked : Prop) (len : Nat) : Prop :=
  ∀ z, cellSound locked len (s.zone z) (s.queue z)

theorem zonesSound_iff (s : State) :
    s.zonesSound ↔ s.cellsSound (s.mtu.state = .locked) s.mtu.len := by
  simp only [State.zonesSound, State.cellsSound, cellSound, forall_and, ne_eq]
  exact and_congr_right fun _ => and_congr_right fun _ => forall_comm

/-- What an operation keeps of each zone and each part before, for zones that it treats one after another. -/
theorem forZones_induction_on {I : State → Prop} {pre : ZoneId → State → Prop} {f : ZoneId → State → State}
    (hI : ∀ z s, I s → pre z s → I (f z s)) (hpre : ∀ y z s, y ≠ z → pre y s → pre y (f z s))
    {zs : List ZoneId} (hzs : zs.Nodup) {s : State} (hs : I s) (h : ∀ z ∈ zs, pre z s) :
    I (forZones zs f s) := by
  induction zs generalizing s with
  | nil => exact hs
  | cons z zs ih =>
    obtain ⟨hz, hzs⟩ := List.nodup_cons.mp hzs
    refine ih hzs (hI z s hs (h z List.mem_cons_self)) fun y hy => ?_
    exact hpre y z s (fun e => hz (e ▸ hy)) (h y (List.mem_cons_of_mem _ hy))

section Cells

variable {s t : State} {locked : Prop} {len : Nat} (h : s.cellsSound locked len)

include h

theorem cells_of_eq (hz : t.zones = s.zones) (ho : t.orders = s.orders) : t.cellsSound locked len := by
  intro z
  have hzone : t.zone z = s.zone z := by rw [State.zone, hz]; rfl
  have hqueue : t.queue z = s.queue z := by rw [State.queue, ho]; rfl
  rw [hzone, hqueue]
  exact h z

theorem cells_setZone {z : ZoneId} {v : Zone} (hv : cellSound locked len v (s.queue z)) :
    (s.setZone z v).cellsSound locked len := by
  intro y
  rw [setZone_zone]
  by_cases e : y = z
  · subst e
    simpa using hv
  · simpa [e] using h y

theorem cells_setQueue {z : ZoneId} {q : List Order} (hq : cellSound locked len (s.zone z) q) :
    (s.setQueue z q).cellsSound locked len := by
  intro y
  rw [setQueue_queue]
  by_cases e : y = z
  · subst e
    simpa using hq
  · simpa [e] using h y

theorem cells_takenOut {st : ZoneState} (hdem : st ≠ .demand) (hdose : st ≠ .dosing) (z : ZoneId)
    (hconf : st ≠ .disabled → (s.zone z).configured = true) (r : HaltReason) :
    (s.takenOut z st r).cellsSound locked len := by
  intro y
  rw [takenOut_zone, takenOut_queue]
  by_cases e : y = z
  · subst e
    simpa using (h y).takenOut hdem hdose hconf r
  · simpa [e] using h y

theorem cells_leaveService {st : ZoneState} (hdem : st ≠ .demand) (hdose : st ≠ .dosing) (z : ZoneId)
    (hconf : st ≠ .disabled → (s.zone z).configured = true) (r : HaltReason) :
    (leaveService z st r s).1.cellsSound locked len := by
  rw [leaveService_eq hdose]
  exact cells_takenOut h hdem hdose z hconf r

/-- R28: orders go from a zone's queue, with the notice to the zone table. -/
theorem cells_shrinkQueue {z : ZoneId} {q : List Order} (hq : queueSound q)
    (hu : ¬ locked → ∀ o ∈ q, o.state = .queued)
    (hhalt : (s.zone z).state ≠ .dosing → ∀ o ∈ q, o.isHalting = true) :
    (s.shrinkQueue z q).cellsSound locked len := by
  have hcell := (h z).shrink hq hu hhalt
  have hne : (s.zone z).state = .dosing → s.queue z ≠ [] := by
    obtain ⟨⟨-, -, -, -, hne, -⟩, -⟩ := h z
    exact hne
  have hset := cells_setQueue (z := z) h (q := q)
  unfold State.shrinkQueue
  split
  · next e =>
    obtain ⟨rfl, -⟩ : q = [] ∧ s.queue z ≠ [] := by simpa using e
    unfold State.lastOrderGone
    split
    · next hst =>
      have hst' : (s.zone z).state = .dosing := by simpa using hst
      rw [if_pos ⟨rfl, hst'⟩] at hcell
      intro y
      rw [setZone_zone]
      by_cases e : y = z
      · subst e
        simpa using hcell
      · simpa [e, setQueue_queue] using h y
    · next hst =>
      have hst' : ¬ (s.zone z).state = .dosing := by simpa using hst
      rw [if_neg fun e => hst' e.2] at hcell
      exact hset hcell
  · next e =>
    have e' : ¬ (q = [] ∧ (s.zone z).state = .dosing) := fun h' => e (by simp [h'.1, hne h'.2])
    rw [if_neg e'] at hcell
    exact hset hcell

theorem cells_shrinkQueue_sublist {z : ZoneId} {q : List Order} (hq : q.Sublist (s.queue z)) :
    (s.shrinkQueue z q).cellsSound locked len := by
  obtain ⟨-, hqs, hu⟩ := h z
  exact cells_shrinkQueue h (hqs.sublist hq) (fun hl o ho => hu hl o (hq.subset ho))
    fun hst o ho => (h z).halting hst o (hq.subset ho)

/-! ### Withdrawals, trips and latches -/

theorem cells_withdrawZone (r : HaltReason) (z : ZoneId) : (withdrawZone r z s).cellsSound locked len := by
  rw [withdrawZone_eq]
  split
  · next hw =>
    have hst : (s.zone z).state ≠ .disabled := fun e => by simp [Zone.wants, e] at hw
    exact cells_takenOut h (by decide) (by decide) z (fun _ => (h z).configured hst) r
  · exact h

theorem cells_withdrawGroup (g : GroupId) (r : HaltReason) : (withdrawGroup g r s).cellsSound locked len :=
  forZones_induction (State.cellsSound · locked len) (fun z _ hs => cells_withdrawZone hs r z) _ _ h

theorem cells_afterTrip (m : GroupSet) : (afterTrip m s).cellsSound locked len :=
  have withdrawn : (forGroups (groupList m) (fun g => withdrawGroup g .groupTrip) s).cellsSound locked len :=
    forGroups_induction (State.cellsSound · locked len)
      (fun g _ hs => cells_withdrawGroup hs g .groupTrip) _ _ h
  cells_of_eq withdrawn (by simp [afterTrip]) (by simp [afterTrip])

theorem cells_trip (cause : TripCause) (named : GroupId → Bool) (ls : List LockedZone) :
    (trip cause named ls s).1.cellsSound locked len := by
  unfold trip
  dsimp only
  split
  · exact h
  · exact cells_afterTrip (cells_of_eq h (by simp) (by simp)) _

theorem cells_weld (g : GroupId) (cause : WeldCause) : (weld g cause s).cellsSound locked len :=
  cells_trip (cells_of_eq h (by simp) (by simp)) _ _ _

theorem cells_stuckOnTrip (z : ZoneId) : (stuckOnTrip z s).1.cellsSound locked len := by
  unfold stuckOnTrip
  dsimp only
  split
  · split
    · exact h
    · exact cells_of_eq h rfl rfl
  · exact cells_trip h _ _ _

theorem cells_openLoadLatch (z : ZoneId) : (openLoadLatch z s).cellsSound locked len := by
  have latch : (s.zone z).state ≠ .disabled →
      (submit (.zoneFaulted z) (leaveService z .faulted .zoneFault s).1).cellsSound locked len := fun hst =>
    cells_of_eq (cells_leaveService h (st := .faulted) (by decide) (by decide) z
      (fun _ => (h z).configured hst) .zoneFault) rfl rfl
  unfold openLoadLatch
  split
  · next e => exact latch (by simp [e])
  · next e => exact latch (by simp [e])
  · next e => exact latch (by simp [e])
  · exact cells_of_eq h (by simp) (by simp)
  · exact h
  · exact h

theorem cells_stuckOnLatch {z : ZoneId} (hc : (s.zone z).configured = true) :
    (stuckOnLatch z s).cellsSound locked len := by
  unfold stuckOnLatch
  split
  · exact h
  · have left := cells_leaveService h (st := .locked) (by decide) (by decide) z (fun _ => hc) .zoneLocked
    exact cells_of_eq (cells_stuckOnTrip left z) rfl rfl

theorem cells_openStrike (z : ZoneId) : (openStrike z s).cellsSound locked len := by
  unfold openStrike
  dsimp only
  split
  · split
    · exact cells_openLoadLatch (cells_of_eq h (by simp) (by simp)) z
    · exact cells_of_eq h (by simp) (by simp)
  · exact h

theorem cells_stuckStrike {z : ZoneId} (hc : (s.zone z).configured = true) :
    (stuckStrike z s).cellsSound locked len := by
  unfold stuckStrike
  dsimp only
  split
  · split
    · exact cells_stuckOnLatch (cells_of_eq h (by simp) (by simp)) (by simpa [State.zone] using hc)
    · exact cells_of_eq h (by simp) (by simp)
  · exact h

theorem cells_applyCheck {z : ZoneId} (c : CheckResult) (hc : c ≠ .unchecked → (s.zone z).configured = true) :
    (applyCheck z c s).cellsSound locked len := by
  unfold applyCheck
  split
  · exact h
  · split
    · exact cells_openStrike (cells_of_eq h (by simp) (by simp)) z
    · exact cells_of_eq h (by simp) (by simp)
  · split
    · exact cells_stuckStrike (cells_of_eq h (by simp) (by simp)) (by simpa using hc nofun)
    · exact cells_of_eq h (by simp) (by simp)

omit h in
theorem applyCheck_configured (y z : ZoneId) (c : CheckResult) (s : State) :
    ((applyCheck z c s).zone y).configured = (s.zone y).configured := by
  obtain ⟨hsetup, -⟩ := applyCheck_checkFrame (g := 0) y z c (s := s) ⟨rfl, rfl, fun _ => rfl⟩
  exact (Prod.mk.inj hsetup).2

/-- R103: the checks treat configured zones. -/
theorem cells_conductionChecks (cs : ZoneSet) : (conductionChecks cs s).cellsSound locked len := by
  refine forZones_induction_on (I := (State.cellsSound · locked len))
    (pre := fun z u => s.check cs z ≠ .unchecked → (u.zone z).configured = true)
    (fun z u hu hc => cells_applyCheck hu _ hc) (fun y z u _ hu hc => ?_) allZones_nodup h fun z _ hc => ?_
  · rw [applyCheck_configured]
    exact hu hc
  · by_contra hn
    exact hc (by simp [State.check, hn])

theorem cells_midPoint (cs : ZoneSet) (first : Bool) : (midPoint cs first s).cellsSound locked len := by
  have sampled : (s.sampled cs).cellsSound locked len := cells_of_eq h rfl rfl
  rw [midPoint_eq]
  split
  · exact cells_conductionChecks (cells_of_eq sampled (by simp) (by simp)) cs
  · exact cells_of_eq (cells_conductionChecks sampled cs) (by simp) (by simp)

/-! ### The takers of a crossing -/

omit h in
/-- R113, R114: a supply check ends with the comparison of the score, on a state of the same zones and groups. -/
theorem exists_checkSupply (r : DriveRecord) (s : State) : ∃ u : State,
    checkSupply r s = supplyLatch u ∧ u.zones = s.zones ∧ u.orders = s.orders ∧ u.gcc = s.gcc := by
  refine ⟨_, rfl, ?_⟩
  split <;> simp

omit h in
/-- R110, R112, R113: supervision's part of a crossing is a supply check or none, the leak at a boundary, and a
new accumulation. -/
theorem exists_supervisionAtCrossing (c : Crossing) (s : State) : ∃ u : State,
    (u = s ∨ ∃ r, u = checkSupply r s) ∧
    supervisionAtCrossing c s = restartReadings (if c.boundary then leakFrame u else u) := by
  refine ⟨_, ?_, rfl⟩
  split
  · exact .inl rfl
  · split
    · split
      · exact .inl rfl
      · exact .inr ⟨_, rfl⟩
    · exact .inl rfl

theorem cells_checkSupply (r : DriveRecord) : (checkSupply r s).cellsSound locked len := by
  obtain ⟨u, hu, hz, ho, -⟩ := exists_checkSupply r s
  have hcells := cells_of_eq h hz ho
  rw [hu, supplyLatch]
  split
  · have zeroed : State.cellsSound { u with sup := { u.sup with supplyScore := 0 } } locked len :=
      cells_of_eq hcells rfl rfl
    exact cells_trip zeroed _ _ _
  · exact hcells

theorem cells_supervisionAtCrossing (c : Crossing) :
    (supervisionAtCrossing c s).cellsSound locked len := by
  obtain ⟨u, hu, he⟩ := exists_supervisionAtCrossing c s
  have hcells : u.cellsSound locked len := by
    rcases hu with rfl | ⟨r, rfl⟩
    · exact h
    · exact cells_checkSupply h r
  rw [he]
  exact cells_of_eq hcells (by split <;> simp) (by split <;> simp)

/-- R23, R24, R26: a boundary of an L that is within the bound on the demands. -/
theorem cells_zonesAtBoundary {l : Nat} (h1 : 1 ≤ l) (hl : l ≤ len) (b : Bool) :
    (zonesAtBoundary l b s).cellsSound locked len := by
  intro z
  rw [zonesAtBoundary_eq]
  have hcell : cellSound locked len (if b then (s.zone z).cutTo l else s.zone z) (s.queue z) := by
    split
    · exact ((h z).cutTo h1).len_le hl
    · exact h z
  simpa [State.zone, State.queue] using hcell.ranDown hl

/-- R26: a boundary at which L changes puts every demand within the new L. -/
theorem cells_zonesAtBoundary_changed {l : Nat} (h1 : 1 ≤ l) :
    (zonesAtBoundary l true s).cellsSound locked l := by
  intro z
  rw [zonesAtBoundary_eq]
  simpa [State.zone, State.queue] using ((h z).cutTo h1).ranDown (Nat.le_refl l)

end Cells

/-! ### The order unit and the cut at a crossing -/

section Locked

variable {s : State} {len : Nat} (h : s.cellsSound True len)

include h

/-- R47, R49: a fired claim of a DOSING zone. -/
theorem cells_fireHead {z : ZoneId} (hst : (s.zone z).state = .dosing) (n : BitVec 32) :
    (fireHead z n s).cellsSound True len := by
  unfold fireHead
  split
  · exact h
  · next o os hq =>
    dsimp only
    have started : (if o.state = .planned then submit (.orderStarted z o.tag n) s else s).zones = s.zones ∧
        (if o.state = .planned then submit (.orderStarted z o.tag n) s else s).orders = s.orders := by
      split <;> simp
    generalize (if o.state = .planned then submit (.orderStarted z o.tag n) s else s) = u at started
    obtain ⟨hzones, horders⟩ := started
    have hu := cells_of_eq h hzones horders
    have huq : u.queue z = o :: os := by rw [State.queue, horders]; exact hq
    split
    · refine cells_shrinkQueue_sublist (cells_of_eq hu (by simp) (by simp)) ?_
      simp [huq]
    · next hr =>
      obtain ⟨-, hqs, -⟩ := hu z
      rw [huq] at hqs
      have hsound : o.sound := by
        obtain ⟨-, -, horders, -⟩ := hqs
        exact horders o List.mem_cons_self
      have huz : (u.zone z).state = .dosing := by rw [State.zone, hzones]; exact hst
      exact cells_setQueue hu ((hu z).requeue huz (hqs.head rfl (hsound.fire hr)) (fun h' => absurd trivial h')
        nofun)

theorem cells_confirmHalts (z : ZoneId) : (confirmHalts z s).cellsSound True len := by
  refine cells_shrinkQueue_sublist (cells_of_eq h (by simp) (by simp)) ?_
  have hq : (confirmReports z (s.queue z) s).queue z = s.queue z := by simp [State.queue]
  rw [hq]
  exact List.filter_sublist

theorem cells_accountZone (f : BitVec 32) {d : ZoneId → Bool} {z : ZoneId}
    (hd : d z = true → (s.zone z).state = .dosing) : (accountZone f d z s).cellsSound True len := by
  unfold accountZone
  split
  · next hz => exact cells_confirmHalts (cells_fireHead h (hd hz) f) z
  · exact cells_confirmHalts h z

omit h in
theorem shrinkQueue_zone_other {y z : ZoneId} (hne : y ≠ z) (q : List Order) (s : State) :
    (s.shrinkQueue z q).zone y = s.zone y := by
  unfold State.shrinkQueue State.lastOrderGone
  split
  · split
    · rw [setZone_zone, if_neg hne]; rfl
    · rfl
  · rfl

omit h in
theorem accountZone_zone_other {y z : ZoneId} (hne : y ≠ z) (f : BitVec 32) (d : ZoneId → Bool) (s : State) :
    (accountZone f d z s).zone y = s.zone y := by
  have confirm : ∀ u : State, (confirmHalts z u).zone y = u.zone y := fun u => by
    rw [confirmHalts, shrinkQueue_zone_other hne]
    simp [State.zone]
  have fire : (fireHead z f s).zone y = s.zone y := by
    unfold fireHead
    split
    · rfl
    · dsimp only
      split <;> split <;> simp [shrinkQueue_zone_other hne]
  unfold accountZone
  split
  · rw [confirm, fire]
  · rw [confirm]

/-- R46, R97: claims come from DOSING zones. -/
theorem cells_switchAtCrossing (f : BitVec 32) (l hc : Nat) (syn : Bool) :
    (switchAtCrossing f l hc syn s).cellsSound True len := by
  have driven : (driveLines f hc syn (zoneSet (s.drives f l hc)) s).cellsSound True len :=
    cells_of_eq h (by simp) (by simp)
  refine forZones_induction_on (I := (State.cellsSound · True len))
    (pre := fun z u => s.drivesDose f l hc z = true → (u.zone z).state = .dosing)
    (fun z u hu hd => cells_accountZone hu f hd) (fun y z u hne hu hd => ?_) allZones_nodup
    driven fun z _ hd => ?_
  · rw [accountZone_zone_other hne]
    exact hu hd
  · have hst : (s.drives f l hc z && (s.zone z).state == .dosing) = true := hd
    simp only [Bool.and_eq_true, beq_iff_eq] at hst
    simpa using hst.2

end Locked

theorem marked_keeps (o : Order) : o.marked.tag = o.tag ∧ o.marked.isHalting = o.isHalting := by
  unfold Order.marked
  split
  · next h => simp [Order.isHalting, h]
  · exact ⟨rfl, rfl⟩

theorem queueSound.markChosen {q : List Order} (h : queueSound q) (c : Choice) :
    queueSound (markChosen c q) := by
  unfold Machine.markChosen
  split
  · exact h
  · next head rest =>
    have hhead : head.marked.sound := by
      obtain ⟨-, -, horders, -⟩ := h
      exact (horders head List.mem_cons_self).marked
    split
    · split
      · exact h
      · next o os =>
        obtain ⟨hlen, htags, horders, htail⟩ := h
        refine ⟨hlen, by simpa [(marked_keeps o).1] using htags, fun x hx => ?_, fun x hx => ?_⟩
        · rcases List.mem_cons.mp hx with rfl | hx
          · exact horders x List.mem_cons_self
          · rcases List.mem_cons.mp hx with rfl | hx
            · exact (horders o (by simp)).marked
            · exact horders x (by simp [hx])
        · rcases List.mem_cons.mp hx with rfl | hx
          · unfold Order.marked
            split
            · exact .inr rfl
            · exact htail o List.mem_cons_self
          · exact htail x (List.mem_cons_of_mem _ hx)
    · exact h.head (marked_keeps head).1 hhead

theorem markChosen_eq_nil_iff (c : Choice) (q : List Order) : markChosen c q = [] ↔ q = [] := by
  unfold markChosen
  split
  · rfl
  · split
    · split <;> simp
    · simp

theorem markChosen_halting (c : Choice) {q : List Order} (h : ∀ o ∈ q, o.isHalting = true) :
    ∀ o ∈ markChosen c q, o.isHalting = true := by
  unfold markChosen
  split
  · exact h
  · split
    · split
      · exact h
      · simpa [(marked_keeps _).2] using h
    · simpa [(marked_keeps _).2] using h

theorem cells_markZone {s : State} {len : Nat} (h : s.cellsSound True len) (c : ZoneId → Choice) (z : ZoneId) :
    (markZone c z s).cellsSound True len := by
  unfold markZone
  split
  · obtain ⟨⟨hc, hdem, hnodem, hconf, hne, hh⟩, hq, -⟩ := h z
    exact cells_setQueue h ⟨⟨hc, hdem, hnodem, hconf,
      fun hst e => hne hst ((markChosen_eq_nil_iff _ _).mp e), fun hst => markChosen_halting _ (hh hst)⟩,
      hq.markChosen _, fun h' => absurd trivial h'⟩
  · exact h

theorem cells_cut {s : State} {len : Nat} (h : s.cellsSound True len) (f : BitVec 32) (l : Nat) (b : Bool) :
    (cut f l b s).cellsSound True len := by
  have marked : (forZones allZones (markZone (s.choose l b)) s).cellsSound True len :=
    forZones_induction (State.cellsSound · True len) (fun z _ hu => cells_markZone hu _ z) _ _ h
  exact cells_of_eq marked rfl rfl

theorem cells_plannerAtBoundary {s : State} {len : Nat} (h : s.cellsSound True len) (c : Crossing) :
    (plannerAtBoundary c s).cellsSound True len := by
  unfold plannerAtBoundary
  split
  · have committed : (commit c.frame c.len (c.lChanged || c.lock) s).cellsSound True len :=
      cells_of_eq h (by simp) (by simp)
    exact cells_cut committed _ _ _
  · exact h

theorem cells_takeCrossing {s : State} {len : Nat} {c : Crossing} (h1 : 1 ≤ c.len) (hl : c.len ≤ len)
    (k : Taker) (h : s.cellsSound True len) : (takeCrossing c k s).cellsSound True len := by
  unfold takeCrossing
  split
  · exact cells_switchAtCrossing h _ _ _ _
  · exact cells_supervisionAtCrossing h c
  · exact cells_of_eq h (by simp) (by simp)
  · exact cells_plannerAtBoundary h c
  · split
    · exact cells_zonesAtBoundary h h1 hl _
    · exact h

/-- R26: a crossing that changes L leaves every demand within the new one, in whatever order it is taken. -/
theorem cells_handOn_changed {s : State} {len : Nat} {c : Crossing} (h1 : 1 ≤ c.len) (hl : c.len ≤ len)
    (hb : c.boundary = true) (hc : c.lChanged = true) (order : List Taker) (h : s.cellsSound True len) :
    (handOn order c s).cellsSound True c.len := by
  refine handOn_establishes (P := (State.cellsSound · True len)) (Q := (State.cellsSound · True c.len)) .zoneTable
    (fun k u hu => cells_takeCrossing h1 hl k hu) (fun u hu => ?_)
    (fun k u _ hu => cells_takeCrossing h1 (Nat.le_refl _) k hu) order h
  simp only [takeCrossing, hb, hc, if_true]
  exact cells_zonesAtBoundary_changed hu h1

end Sys2Proof.Machine
end

section
/-! SUPPORT. What the requests keep of the zones' records with their queues, and every command by its parts.
Settles O6. -/

namespace Sys2Proof.Machine

/-! ### Requests of the contactor controller and the store -/

/-- R125: CLOSE_GROUP changes nothing, or closes an OPEN group that no LOCKED zone names. -/
theorem answerCloseGroup_cases (g : GroupId) (s : State) : (answerCloseGroup g s).state = s ∨
    (s.anyLockedIn g = false ∧ (answerCloseGroup g s).state = closeTaken g s) := by
  unfold answerCloseGroup
  split
  · exact .inl rfl
  · split
    · exact .inl rfl
    · split
      · exact .inl rfl
      · next hlocked =>
        split
        · exact .inl rfl
        · split
          · exact .inl rfl
          · exact .inr ⟨by simpa using hlocked, rfl⟩

/-- R141: ACK_TRIP changes nothing, or opens a TRIPPED group. -/
theorem answerAckTrip_cases (g : GroupId) (s : State) : (answerAckTrip g s).state = s ∨
    ((s.group g).state = .tripped ∧
      (answerAckTrip g s).state = s.setGroup g { s.group g with state := .opened, record := 0 }) := by
  unfold answerAckTrip
  split
  · next hst => exact .inr ⟨hst, rfl⟩
  · exact .inl rfl

theorem answerReadTripRecord_state (n : Half) (s : State) : (answerReadTripRecord n s).state = s := by
  unfold answerReadTripRecord
  split <;> rfl

theorem answerReleaseTripRecord_state (n : Half) (s : State) :
    ∃ t, (answerReleaseTripRecord n s).state = { s with store := t } := by
  unfold answerReleaseTripRecord
  split
  · exact ⟨s.store, rfl⟩
  · split
    · exact ⟨s.store, rfl⟩
    · exact ⟨_, rfl⟩

/-! ### Requests of the zone table -/

section Requests

variable {s : State} {locked : Prop} {len : Nat} (h : s.cellsSound locked len)

include h

theorem cells_restZone {z : ZoneId} {st : ZoneState} (hdem : st ≠ .demand) (hdose : st ≠ .dosing)
    (hconf : st ≠ .disabled → (s.zone z).configured = true) (hst : (s.zone z).state ≠ .dosing) :
    (s.restZone z st).cellsSound locked len := by
  obtain ⟨-, hq, hu⟩ := h z
  exact cells_setZone h ((h z).rest hdem hconf hq hu (fun e => absurd e hdose) fun _ => (h z).halting hst)

theorem cells_configZone {cfg : ZoneConfig} (hcfg : cfg.sound) (z : ZoneId) :
    (answerConfigZone z cfg s).state.cellsSound locked len := by
  unfold answerConfigZone
  split
  · next hst =>
    obtain ⟨⟨-, hdem, hnodem, -, hne, hh⟩, hq, hu⟩ := h z
    have written : (s.setZone z { s.zone z with cfg := cfg, configured := true }).cellsSound locked len :=
      cells_setZone h ⟨⟨hcfg, fun e => absurd (hst.symm.trans e) (by decide), hnodem, fun _ => rfl, hne, hh⟩, hq, hu⟩
    exact cells_of_eq written rfl rfl
  · exact h

theorem cells_enableZone (z : ZoneId) : (answerEnableZone z s).state.cellsSound locked len := by
  unfold answerEnableZone
  split
  · next hst =>
    split
    · next hc => exact cells_restZone h (by decide) (by decide) (fun _ => hc) (by simp [hst])
    · exact h
  · exact h

theorem cells_disableZone (z : ZoneId) : (answerDisableZone z s).state.cellsSound locked len := by
  have left : (leaveService z .disabled .zoneDisabled s).1.cellsSound locked len :=
    cells_leaveService h (by decide) (by decide) z (fun e => absurd rfl e) _
  unfold answerDisableZone
  split
  · exact h
  · exact h
  · exact cells_of_eq left rfl rfl

theorem cells_setDemand {z : ZoneId} {d : Nat} (hd : d ≤ len)
    (hst : (s.zone z).state = .idle ∨ (s.zone z).state = .demand) :
    (s.setDemand z d).cellsSound locked len := by
  have hdose : (s.zone z).state ≠ .dosing := by rcases hst with e | e <;> simp [e]
  have hconf : (s.zone z).configured = true :=
    (h z).configured (by rcases hst with e | e <;> simp [e])
  unfold State.setDemand
  split
  · exact cells_restZone h (by decide) (by decide) (fun _ => hconf) hdose
  · next h0 =>
    have hhalt := (h z).halting hdose
    obtain ⟨⟨hc, -⟩, hq, hu⟩ := h z
    exact cells_setZone h ⟨⟨hc, fun _ => ⟨⟨Nat.pos_of_ne_zero h0, hd⟩, Nat.le_refl _⟩, fun e => absurd rfl e,
      fun _ => hconf, nofun, fun _ => hhalt⟩, hq, hu⟩

theorem cells_answerSetDemand {z : ZoneId} {d : Nat} (hd : d ≤ len) :
    (answerSetDemand z d s).state.cellsSound locked len := by
  unfold answerSetDemand
  split
  · next hst => exact cells_setDemand h hd (.inl hst)
  · next hst => exact cells_setDemand h hd (.inr hst)
  all_goals exact h

theorem cells_clearZone (z : ZoneId) : (answerClearZone z s).state.cellsSound locked len := by
  have cleared : (s.zone z).state ≠ .dosing → (s.zone z).state ≠ .disabled →
      (zeroScores z (s.restZone z .idle)).cellsSound locked len := fun hdose hdis =>
    cells_of_eq (cells_restZone h (st := .idle) (by decide) (by decide) (fun _ => (h z).configured hdis) hdose)
      rfl rfl
  unfold answerClearZone
  split
  · next hst => exact cleared (by simp [hst]) (by simp [hst])
  · next hst =>
    split
    · exact cleared (by simp [hst]) (by simp [hst])
    · exact h
  · exact h

/-! ### Requests of the order unit -/

theorem cells_appendOrder {z : ZoneId} {tag : Half} {total cap : Nat} (ht : tag ≠ 0) (htotal : 1 ≤ total)
    (hcap : 1 ≤ cap ∧ cap ≤ 128) (hopen : (s.zone z).state.refusesOrders = false)
    (hroom : (s.queue z).length < Config.queueDepth) (hnew : ∀ o ∈ s.queue z, o.tag ≠ tag) :
    (s.appendOrder z tag total cap).cellsSound locked len := by
  have hconf : (s.zone z).configured = true :=
    (h z).configured fun e => by simp [e, ZoneState.refusesOrders] at hopen
  let o : Order := { tag := tag, handle := s.nextHandle, total := total, cap := cap, fired := 0,
                     remaining := total, state := .queued }
  obtain ⟨⟨hc, hdem, hnodem, -⟩, ⟨hlen, htags, horders, htail⟩, hu⟩ := h z
  have hsound : o.sound := ⟨ht, Nat.zero_add _, htotal, hcap, fun _ => rfl, nofun, nofun⟩
  have hq : queueSound (s.queue z ++ [o]) := by
    refine ⟨by simpa using hroom, ?_, fun x hx => ?_, fun x hx => ?_⟩
    · rw [List.map_append, List.nodup_append]
      exact ⟨htags, List.nodup_singleton _, by simpa [o] using hnew⟩
    · rcases List.mem_append.mp hx with hx | hx
      · exact horders x hx
      · rw [List.mem_singleton.mp hx]
        exact hsound
    · cases hqz : s.queue z with
      | nil => simp [hqz] at hx
      | cons y ys =>
        rw [hqz, List.cons_append, List.tail_cons] at hx
        rcases List.mem_append.mp hx with hx | hx
        · exact htail x (by rw [hqz]; exact hx)
        · rw [List.mem_singleton.mp hx]
          exact .inl rfl
  have hqu : ¬ locked → ∀ x ∈ s.queue z ++ [o], x.state = .queued := by
    intro hl x hx
    rcases List.mem_append.mp hx with hx | hx
    · exact hu hl x hx
    · rw [List.mem_singleton.mp hx]
  let s1 : State := { s.setQueue z (s.queue z ++ [o]) with
    orders := { (s.setQueue z (s.queue z ++ [o])).orders with counter := s.nextHandle + 1 } }
  have hqueue : ∀ y, s1.queue y = if y = z then s.queue z ++ [o] else s.queue y :=
    fun y => setQueue_queue s z y _
  change (s1.orderAccepted z).cellsSound locked len
  intro y
  unfold State.orderAccepted
  by_cases e : y = z
  · subst e
    split
    · next hst =>
      rw [hqueue, if_pos rfl]
      exact (h y).requeue hst hq hqu (by simp)
    · simp only [State.restZone, setZone_zone_self, setZone_keeps, hqueue, if_true]
      exact (h y).rest (by decide) (fun _ => hconf) hq hqu (fun _ => by simp) fun e => absurd rfl e
  · split
    · rw [hqueue, if_neg e]
      exact h y
    · simp only [State.restZone, setZone_zone, setZone_keeps, hqueue, if_neg e]
      exact h y

theorem cells_queueOrder {z : ZoneId} {tag : Half} {total cap : Nat} (ht : tag ≠ 0) (htotal : 1 ≤ total)
    (hcap : 1 ≤ cap ∧ cap ≤ 128) : (answerQueueOrder z tag total cap s).state.cellsSound locked len := by
  unfold answerQueueOrder
  split
  · exact h
  · next hopen =>
    split
    · exact h
    · next hroom =>
      split
      · exact h
      · next hnew =>
        exact cells_appendOrder h ht htotal hcap (by simpa using hopen) (Nat.lt_of_not_le hroom)
          (by simpa using hnew)

/-- R50: a PLANNED or ACTIVE head becomes HALTING. -/
theorem cells_haltHead {z : ZoneId} {o : Order} {os : List Order} (hq : s.queue z = o :: os)
    (hfree : o.isHalting = false) (hst : o.state ≠ .queued) (r : HaltReason) :
    (s.setQueue z ({ o with state := .halting r } :: os)).cellsSound locked len := by
  have hcell := h z
  rw [hq] at hcell
  have hdose : (s.zone z).state = .dosing := by
    by_contra e
    have := hcell.halting e o List.mem_cons_self
    simp [hfree] at this
  obtain ⟨-, hqs, hu⟩ := id hcell
  have hsound : o.sound := by
    obtain ⟨-, -, horders, -⟩ := hqs
    exact horders o List.mem_cons_self
  have hqs' := hqs.head (o' := { o with state := .halting r }) rfl (hsound.halting r)
  exact cells_setQueue h (hcell.requeue hdose hqs' (fun hl => absurd (hu hl o List.mem_cons_self) hst) nofun)

theorem cells_abortOrder (z : ZoneId) (tag : Half) :
    (answerAbortOrder z tag s).state.cellsSound locked len := by
  unfold answerAbortOrder
  split
  · exact h
  · next head rest hq =>
    split
    · split
      · exact h
      · exact cells_shrinkQueue_sublist h (by rw [hq]; exact List.sublist_cons_self head rest)
      · next hhalt hqueued =>
        refine cells_haltHead h hq ?_ hqueued .aborted
        unfold Order.isHalting
        split
        · next r hr => exact absurd hr (hhalt r)
        · rfl
    · unfold abortBehind
      split
      · exact h
      · exact cells_shrinkQueue_sublist h (by rw [hq]; exact List.filter_sublist.cons_cons head)

/-! ### Requests of the contactor controller -/

theorem cells_openGroup (g : GroupId) : (answerOpenGroup g s).state.cellsSound locked len := by
  have withdrawn : ∀ v, (testOpening g (withdrawGroup g .groupOpened (s.setGroup g v))).cellsSound locked len :=
    fun v =>
      have written : (s.setGroup g v).cellsSound locked len := cells_of_eq h rfl rfl
      cells_of_eq (cells_withdrawGroup written g .groupOpened) (by simp) (by simp)
  unfold answerOpenGroup
  split
  · rw [openFromClosed_eq]
    exact withdrawn _
  · rw [openFromClosing_eq]
    exact withdrawn _
  all_goals exact h

/-! ### Every request -/

/-- Every request but SET_FRAME leaves L and keeps each zone's record with its queue. -/
theorem cells_answer (r : Request) (hr : r.inRange len = true) (hnot : ∀ l, r ≠ .setFrame l) :
    (answer r s).state.cellsSound locked len := by
  cases r with
  | setFrame l => exact absurd rfl (hnot l)
  | configZone z g c p o l f ol sl =>
    simp only [Request.inRange, Bool.and_eq_true, within_iff] at hr
    obtain ⟨⟨⟨⟨⟨⟨-, -⟩, hc⟩, -⟩, -, ho⟩, -, hf⟩, hol⟩ := hr.1
    exact cells_configZone h ⟨hc, ho, Nat.le_of_lt_succ l.isLt, hf, hol, hr.2⟩ _
  | enableZone z => exact cells_enableZone h _
  | disableZone z => exact cells_disableZone h _
  | setDemand z d =>
    simp only [Request.inRange, Bool.and_eq_true, within_iff] at hr
    exact cells_answerSetDemand h hr.2.2
  | clearZone z => exact cells_clearZone h _
  | queueOrder z t n c =>
    simp only [Request.inRange, Bool.and_eq_true, within_iff] at hr
    obtain ⟨⟨⟨-, ht, -⟩, hn, -⟩, hc⟩ := hr
    exact cells_queueOrder h (by rintro rfl; simp at ht) hn hc
  | abortOrder z t => exact cells_abortOrder h _ _
  | closeGroup g =>
    rcases answerCloseGroup_cases (groupNumber g) s with e | ⟨-, e⟩
    · exact cells_of_eq h (congrArg State.zones e :) (congrArg State.orders e :)
    · exact cells_of_eq h (congrArg State.zones e :) (congrArg State.orders e :)
  | openGroup g => exact cells_openGroup h _
  | ackTrip g =>
    rcases answerAckTrip_cases (groupNumber g) s with e | ⟨-, e⟩
    · exact cells_of_eq h (congrArg State.zones e :) (congrArg State.orders e :)
    · exact cells_of_eq h (congrArg State.zones e :) (congrArg State.orders e :)
  | tripAll => exact cells_trip h _ _ _
  | readTripRecord n =>
    have e := answerReadTripRecord_state n s
    exact cells_of_eq h (congrArg State.zones e :) (congrArg State.orders e :)
  | releaseTripRecord n =>
    obtain ⟨t, e⟩ := answerReleaseTripRecord_state n s
    exact cells_of_eq h (congrArg State.zones e :) (congrArg State.orders e :)
  | clearTally =>
    exact cells_of_eq h (by simp [answer, answerClearTally, State.grant])
      (by simp [answer, answerClearTally, State.grant])
  | _ => exact cells_of_eq h rfl rfl

end Requests

/-- R13: SET_FRAME writes L only while no zone has a demand. -/
theorem answerSetFrame_keeps_zonesSound {s : State} (l : Byte) (h : s.zonesSound) :
    (answerSetFrame l s).state.zonesSound := by
  rw [zonesSound_iff] at h
  unfold answerSetFrame
  split
  · exact (zonesSound_iff s).mpr h
  · split
    · exact (zonesSound_iff s).mpr h
    · next hidle =>
      have hnone : ∀ z, (s.zone z).state ≠ .demand := fun z => by
        have hall : ∀ z, (s.zone z).state ≠ .demand ∧ (s.zone z).state ≠ .dosing := by
          simpa only [anyZoneActive_iff, not_not] using hidle
        exact (hall z).1
      exact (zonesSound_iff _).mpr fun z => (h z).len_of_not_demand (hnone z) _

/-! ### The contactor controller's happenings -/

section Groups

variable {s : State} {locked : Prop} {len : Nat} (h : s.cellsSound locked len)

include h

theorem cells_auxHandled (g : GroupId) : (auxHandled g s).cellsSound locked len := by
  unfold auxHandled
  split
  · exact cells_of_eq h (by simp) (by simp)
  · exact cells_of_eq h (by simp) (by simp)
  · split
    · exact cells_of_eq h (by simp) (by simp)
    · exact h
  · split
    · exact h
    · exact cells_trip h _ _ _
  · exact cells_of_eq h (by simp) (by simp)
  · exact cells_of_eq h (by simp) (by simp)
  · exact h

theorem cells_auxChange (g : GroupId) : (auxChange g s).cellsSound locked len := by
  unfold auxChange
  split
  · exact h
  · next t _ =>
    let u := s.atTime (t + Config.debounce)
    have changed : (u.setGroup g { u.group g with
        aux := !(u.group g).aux, rawAuxSince := none }).cellsSound locked len := cells_of_eq h rfl rfl
    exact cells_auxHandled changed g

theorem cells_stopChange : (stopChange s).cellsSound locked len := by
  unfold stopChange
  split
  · exact h
  · next t _ =>
    have changed : State.cellsSound { s.atTime (t + Config.debounce) with
        gcc := { (s.atTime (t + Config.debounce)).gcc with stop := !s.gcc.stop, rawStopSince := none } }
        locked len := cells_of_eq h rfl rfl
    dsimp only
    split
    · exact cells_trip changed _ _ _
    · exact changed

theorem cells_openExpired (g : GroupId) : (openExpired g s).cellsSound locked len := by
  unfold openExpired
  split
  · exact cells_weld h g _
  · exact h

theorem cells_verifyExpired (g : GroupId) : (verifyExpired g s).cellsSound locked len := by
  unfold verifyExpired
  split
  · exact cells_of_eq h (by simp) (by simp)
  · exact cells_weld h g _

end Groups

/-! ### Edges -/

/-- R26: a crossing in LOCKED leaves every demand within the L of the frame that it belongs to. -/
theorem crossLocked_keeps_zonesSound {s : State} (order : List Taker) (ref : Nat) (syn : Bool)
    (hm : s.mtu.sound) (hl : s.mtu.state = .locked) (h : s.zonesSound) :
    (crossLocked order ref syn s).zonesSound := by
  obtain ⟨-, -, -, ⟨hlen, -⟩, ⟨hpend, -⟩, -⟩ := hm
  have hcells : s.cellsSound True s.mtu.len := fun z =>
    ((zonesSound_iff s).mp h z).mono fun _ => trivial
  let c := s.mtu.crossing syn
  let s1 : State := { s with mtu := { s.mtu.advance with
    refTime := some ref, coast := syn, midDue := some (midInstant s.now ref s.mtu.period) } }
  have h1 : 1 ≤ c.len := by
    simp only [c, crossing_eq]
    split <;> omega
  have hclen : c.len = s1.mtu.len := by simp only [c, s1, crossing_eq, advance_eq]
  have done : (handOn order c s1).cellsSound True c.len := by
    by_cases hchanged : c.lChanged = true
    · have hb : c.boundary = true := by
        simp only [c, crossing_eq, Bool.and_eq_true] at hchanged ⊢
        exact hchanged.1
      have within : s1.cellsSound True (max s.mtu.len c.len) := fun z =>
        (hcells z).len_le (Nat.le_max_left _ _)
      exact cells_handOn_changed h1 (Nat.le_max_right _ _) hb hchanged order within
    · have hsame : c.len = s.mtu.len := by
        simp only [c, crossing_eq, Bool.and_eq_true, Bool.not_eq_true', decide_eq_false_iff_not, bne_iff_ne,
          not_and, not_not] at hchanged ⊢
        split
        · rfl
        · next hend => exact hchanged hend
      have start : s1.cellsSound True c.len := hsame ▸ hcells
      exact handOn_induction (P := (State.cellsSound · True c.len))
        (fun k u hu => cells_takeCrossing h1 (Nat.le_refl _) k hu) order start
  have hmtu : (handOn order c s1).mtu = s1.mtu := by simp
  have hstate : s1.mtu.state = .locked := by simpa only [s1, advance_eq] using hl
  refine (zonesSound_iff (handOn order c s1)).mpr fun z => ?_
  rw [hmtu, ← hclen]
  exact (done z).mono fun _ => hstate

theorem lockMains_keeps_zonesSound {s : State} (order : List Taker) (hlen : 8 ≤ s.mtu.len)
    (hpend : s.mtu.pendingLen = s.mtu.len) (h : s.zonesSound) : (lockMains order s).zonesSound := by
  have hcells : s.cellsSound True s.mtu.len := fun z =>
    ((zonesSound_iff s).mp h z).mono fun _ => trivial
  have hclen : (lockCrossing s.mtu).len = s.mtu.len := hpend
  have done : (lockMains order s).cellsSound True (lockCrossing s.mtu).len := by
    refine handOn_induction (P := (State.cellsSound · True (lockCrossing s.mtu).len))
      (fun k u hu => cells_takeCrossing (by omega) (Nat.le_refl _) k hu) order ?_
    exact cells_of_eq (s := s) (hclen ▸ hcells) rfl rfl
  refine (zonesSound_iff _).mpr fun z => ?_
  rw [lockMains_mtu]
  exact (done z).mono fun _ => rfl

/-- R31, R55: after a loss no zone has a demand and no queue an order. -/
theorem loseMains_keeps_zonesSound {s : State} (h : s.zonesSound) : (loseMains s).zonesSound := by
  refine (zonesSound_iff _).mpr fun z => ?_
  obtain ⟨⟨hc, -, hnodem, hconf, -⟩, -⟩ := (zonesSound_iff s).mp h z
  have hempty : queueSound [] := ⟨Nat.zero_le _, List.nodup_nil, nofun, nofun⟩
  have hzone : (loseMains s).zone z = (s.zone z).idled := by simp [loseMains_eq, State.zone]
  have hqueue : (loseMains s).queue z = [] := by simp [loseMains_eq, State.queue]
  rw [hzone, hqueue]
  unfold Zone.idled
  split
  · next hw =>
    have hdis : (s.zone z).state ≠ .disabled := fun e => by simp [Zone.wants, e] at hw
    exact ⟨⟨hc, nofun, fun _ => ⟨rfl, rfl⟩, fun _ => hconf hdis, nofun, fun _ => nofun⟩, hempty,
      fun _ => nofun⟩
  · next hw =>
    have hrest : (s.zone z).state ≠ .demand ∧ (s.zone z).state ≠ .dosing := by
      simpa [Zone.wants] using hw
    exact ⟨⟨hc, fun e => absurd e hrest.1, hnodem, hconf, fun e => absurd e hrest.2, fun _ => nofun⟩,
      hempty, fun _ => nofun⟩

/-! ### Every command -/

/-- R16, R40: the reset values. -/
theorem blank_zonesSound (now : Nat) (b : Straps) (raw : Vector Bool 4) (stop : Bool) (store : TripStore)
    (pending : List Instr) : (State.blank now b raw stop store pending).zonesSound := by
  refine (zonesSound_iff _).mpr fun z => ?_
  have hzone : (State.blank now b raw stop store pending).zone z = Zone.reset z := by
    simp [State.zone, State.blank]
  have hqueue : (State.blank now b raw stop store pending).queue z = [] := by
    simp [State.queue, State.blank, OrderUnit.reset]
  have hz := z.isLt
  rw [hzone, hqueue]
  have hcfg : (Zone.reset z).cfg.sound := by
    simp only [ZoneConfig.sound, Zone.reset]
    omega
  exact ⟨⟨hcfg,
    nofun, fun _ => ⟨rfl, rfl⟩, fun e => absurd rfl e, nofun, fun _ => nofun⟩,
    ⟨Nat.zero_le _, List.nodup_nil, nofun, nofun⟩, fun _ => nofun⟩

/-- An operation that leaves the mains timing unit keeps the zone table and the order unit sound when it keeps
each zone's record with its queue. -/
theorem zonesSound_of_cells {s t : State} (hm : t.mtu = s.mtu)
    (hcells : ∀ locked len, s.cellsSound locked len → t.cellsSound locked len) (h : s.zonesSound) :
    t.zonesSound := by
  rw [zonesSound_iff] at h ⊢
  rw [hm]
  exact hcells _ _ h

theorem answer_keeps_zonesSound {s : State} (r : Request) (hr : r.inRange s.mtu.len = true)
    (h : s.zonesSound) : (answer r s).state.zonesSound := by
  by_cases hset : ∃ l, r = .setFrame l
  · obtain ⟨l, rfl⟩ := hset
    exact answerSetFrame_keeps_zonesSound l h
  · have hnot : ∀ l, r ≠ .setFrame l := fun l e => hset ⟨l, e⟩
    rw [zonesSound_iff] at h ⊢
    rw [answer_mtu r s hnot]
    exact cells_answer h r hr hnot

/-- R17, R18, R41, R42, R55: what each part of a command keeps of the zone table and the order unit. -/
theorem zonesSound_keptByParts : KeptByParts State.zonesSound where
  frame := fun ⟨hm, hz, ho, _⟩ => zonesSound_of_cells hm fun _ _ h => cells_of_eq h hz ho
  power := fun _ _ _ _ _ => blank_zonesSound _ _ _ _ _ _
  pin := fun _ _ _ _ _ _ => blank_zonesSound _ _ _ _ _ _
  retime := by
    intro s m hlocked hlen _ _ h
    rw [zonesSound_iff] at h ⊢
    intro z
    have hcell : cellSound (s.mtu.state = .locked) m.len (s.zone z) (s.queue z) := hlen ▸ h z
    exact hcell.mono hlocked.mpr
  lock := fun order _ hlen hpend => lockMains_keeps_zonesSound order hlen hpend
  cross := fun order ref syn hm hl => crossLocked_keeps_zonesSound order ref syn hm hl
  lose := fun _ => loseMains_keeps_zonesSound
  point := by
    intro s cs first _ h
    rw [zonesSound_iff] at h ⊢
    rw [midPoint_mtu]
    exact cells_midPoint h cs first
  reading := fun v => zonesSound_of_cells (by simp) fun _ _ h => cells_of_eq h (by simp) (by simp)
  raw := fun line level => zonesSound_of_cells (by simp) fun _ _ h =>
    cells_of_eq h (by cases line <;> rfl) (by cases line <;> rfl)
  aux := fun g => zonesSound_of_cells (by simp) fun _ _ h => cells_auxChange h g
  stop := zonesSound_of_cells (by simp) fun _ _ h => cells_stopChange h
  closeTimer := fun g _ => zonesSound_of_cells (by simp) fun _ _ h => cells_of_eq h (by simp) (by simp)
  releaseTimer := fun g _ => zonesSound_of_cells (by simp) fun _ _ h => cells_of_eq h (by simp) (by simp)
  openTimer := fun g _ => zonesSound_of_cells (by simp) fun _ _ h => cells_openExpired h g
  verifyTimer := fun g _ => zonesSound_of_cells (by simp) fun _ _ h => cells_verifyExpired h g
  stuckTimer := fun g _ => zonesSound_of_cells (by simp) fun _ _ h => cells_weld h g _
  answered := fun r _ hr => answer_keeps_zonesSound r hr

/-- Settles O6: every step keeps what the parts of its command keep. -/
theorem stepKeepsTheZonesAndOrdersSound : Obligations.StepKeepsTheZonesAndOrdersSound := by
  intro s t hs h
  obtain ⟨hm, hz, -⟩ := hs
  exact zonesSound_keptByParts.step hm hz h

end Sys2Proof.Machine
end

section
/-! SUPPORT. The groups of LOCKED zones stay off the supply: no operation but a stuck-on latch locks a zone, and
no operation but a close makes a group trippable that was not. Settles O11. -/

namespace Sys2Proof.Machine

/-! ### Operations that bring no LOCKED zone nearer to the supply -/

/-- Against `s`, `t` has no zone newly LOCKED or under another group while LOCKED, and no group newly CLOSING,
CLOSED or OPENING. -/
def State.noNearer (t s : State) : Prop :=
  (∀ z, (t.zone z).state = .locked →
    (s.zone z).state = .locked ∧ (t.zone z).cfg.group = (s.zone z).cfg.group) ∧
  ∀ g, (s.group g).state.trippable = false → (t.group g).state.trippable = false

theorem noNearer_refl (s : State) : s.noNearer s := ⟨fun _ h => ⟨h, rfl⟩, fun _ h => h⟩

theorem State.noNearer.trans {u t s : State} (h₂ : u.noNearer t) (h₁ : t.noNearer s) : u.noNearer s := by
  obtain ⟨hz₁, hg₁⟩ := h₁
  obtain ⟨hz₂, hg₂⟩ := h₂
  refine ⟨fun z hz => ?_, fun g hg => hg₂ g (hg₁ g hg)⟩
  obtain ⟨ht, e₂⟩ := hz₂ z hz
  obtain ⟨hs, e₁⟩ := hz₁ z ht
  exact ⟨hs, e₂.trans e₁⟩

/-- R33: the group of a zone that is LOCKED is neither CLOSING, CLOSED nor OPENING. -/
def State.offSupply (s : State) (z : ZoneId) : Prop :=
  (s.zone z).state = .locked → (s.groupOf z).state.trippable = false

theorem State.noNearer.offSupply {t s : State} (h : t.noNearer s) {z : ZoneId} (hs : s.offSupply z) :
    t.offSupply z := by
  intro hz
  obtain ⟨hlocked, e⟩ := h.1 z hz
  rw [State.groupOf, e]
  exact h.2 _ (hs hlocked)

theorem State.noNearer.keeps {t s : State} (h : t.noNearer s) (hs : s.lockedZonesSound) :
    t.lockedZonesSound := fun z => h.offSupply (hs z)

theorem noNearer_of_eq {t s : State} (hz : t.zones = s.zones) (hg : t.gcc = s.gcc) : t.noNearer s := by
  refine ⟨fun z h => ?_, fun g h => ?_⟩
  · have e : t.zone z = s.zone z := by rw [State.zone, hz]; rfl
    exact e ▸ ⟨h, rfl⟩
  · rw [State.group, hg]
    exact h

/-- An operation on the zones that locks none and leaves the LOCKED ones. -/
theorem noNearer_of_zones {t s : State} (hg : t.gcc = s.gcc)
    (hz : ∀ z, (t.zone z).state = .locked → t.zone z = s.zone z) : t.noNearer s := by
  refine ⟨fun z h => ?_, fun g h => ?_⟩
  · have e := hz z h
    rw [e] at h ⊢
    exact ⟨h, rfl⟩
  · rw [State.group, hg]
    exact h

theorem noNearer_setZone (s : State) {z : ZoneId} {v : Zone} (hv : v.state ≠ .locked) :
    (s.setZone z v).noNearer s := by
  refine noNearer_of_zones rfl fun y hy => ?_
  rw [setZone_zone] at hy ⊢
  split
  · next e => exact absurd (by simpa [e] using hy) hv
  · rfl

/-- An operation on the groups that makes none trippable. -/
theorem noNearer_of_groups {t s : State} (hz : t.zones = s.zones)
    (hg : ∀ g, (s.group g).state.trippable = false → (t.group g).state.trippable = false) : t.noNearer s := by
  refine ⟨fun z h => ?_, hg⟩
  have e : t.zone z = s.zone z := by rw [State.zone, hz]; rfl
  exact e ▸ ⟨h, rfl⟩

theorem noNearer_setGroup (s : State) {g : GroupId} {v : Group}
    (hv : (s.group g).state.trippable = false → v.state.trippable = false) : (s.setGroup g v).noNearer s := by
  refine noNearer_of_groups rfl fun y hy => ?_
  rw [setGroup_group]
  split
  · next e => exact hv (e ▸ hy)
  · exact hy

theorem noNearer_takenOut (s : State) {st : ZoneState} (h : st ≠ .locked) (z : ZoneId) (r : HaltReason) :
    (s.takenOut z st r).noNearer s := by
  refine noNearer_of_zones rfl fun y hy => ?_
  rw [takenOut_zone] at hy ⊢
  split
  · next e => exact absurd (by simpa [e] using hy) h
  · rfl

theorem noNearer_leaveService (s : State) {st : ZoneState} (h : st ≠ .locked) (hd : st ≠ .dosing) (z : ZoneId)
    (r : HaltReason) : (leaveService z st r s).1.noNearer s := by
  rw [leaveService_eq hd]
  exact noNearer_takenOut s h z r

theorem noNearer_shrinkQueue (s : State) (z : ZoneId) (q : List Order) : (s.shrinkQueue z q).noNearer s := by
  unfold State.shrinkQueue State.lastOrderGone
  split
  · split
    · exact noNearer_setZone (s.setQueue z q) (by simp)
    · exact noNearer_of_eq rfl rfl
  · exact noNearer_of_eq rfl rfl

/-- Operations on the zones of a list, each of which brings no LOCKED zone nearer. -/
theorem noNearer_forZones {f : ZoneId → State → State} (h : ∀ z s, (f z s).noNearer s) (zs : List ZoneId)
    (s : State) : (forZones zs f s).noNearer s :=
  forZones_induction (State.noNearer · s) (fun z _ hu => (h z _).trans hu) zs s (noNearer_refl s)

theorem noNearer_forGroups {f : GroupId → State → State} (h : ∀ g s, (f g s).noNearer s) (gs : List GroupId)
    (s : State) : (forGroups gs f s).noNearer s :=
  forGroups_induction (State.noNearer · s) (fun g _ hu => (h g _).trans hu) gs s (noNearer_refl s)

/-! ### Withdrawals, tests, trips and welds -/

theorem noNearer_withdrawGroup (g : GroupId) (r : HaltReason) (s : State) :
    (withdrawGroup g r s).noNearer s := by
  refine noNearer_forZones (fun z u => ?_) _ s
  rw [withdrawZone_eq]
  split
  · exact noNearer_takenOut u (by decide) z r
  · exact noNearer_refl u

theorem noNearer_testGroup (g : GroupId) (s : State) : (testGroup g s).noNearer s := by
  refine noNearer_of_groups (by simp) fun y hy => ?_
  by_cases e : y = g
  · subst e
    rw [testGroup_group_self]
    split
    · rfl
    · exact hy
  · rw [testGroup_group_other e]
    exact hy

theorem noNearer_testGroups (s : State) : (testGroups s).noNearer s :=
  noNearer_forGroups noNearer_testGroup _ s

theorem afterTrip_noNearer (m : GroupSet) (s : State) : (afterTrip m s).noNearer s :=
  (noNearer_forGroups noNearer_testGroup _ _).trans
    (noNearer_forGroups (fun g u => noNearer_withdrawGroup g .groupTrip u) _ s)

theorem state_of_unrecorded_eq {v w : Group} (h : v.unrecorded = w.unrecorded) : v.state = w.state :=
  (congrArg Group.state h :)

theorem makeRecord_group_state (r : TripRecord) (s : State) (g : GroupId) :
    ((makeRecord r s).1.group g).state = (s.group g).state :=
  state_of_unrecorded_eq (makeRecord_group r)

theorem noNearer_trip (cause : TripCause) (named : GroupId → Bool) (ls : List LockedZone) (s : State) :
    (trip cause named ls s).1.noNearer s := by
  refine ⟨fun z hz => ?_, fun g hg => ?_⟩
  · unfold trip at hz ⊢
    dsimp only at hz ⊢
    split at hz
    · next hm => rw [if_pos hm]; exact ⟨hz, rfl⟩
    · next hm =>
      rw [if_neg hm]
      obtain ⟨hlocked, e⟩ := (afterTrip_noNearer _ _).1 z hz
      rw [e]
      simpa [State.zone] using hlocked
  · rw [state_of_unrecorded_eq (trip_group_of_not_trippable hg cause named ls)]
    exact hg

/-- R132: after a trip none of the groups it names is CLOSING, CLOSED or OPENING. -/
theorem trip_named_not_trippable (cause : TripCause) {named : GroupId → Bool} {g : GroupId} (hg : named g = true)
    (ls : List LockedZone) (s : State) : ((trip cause named ls s).1.group g).state.trippable = false := by
  cases htrip : (s.group g).state.trippable with
  | false => exact (noNearer_trip cause named ls s).2 g htrip
  | true =>
    have hin : inGroups (s.affected named) g = true := by simp [State.affected, hg, htrip]
    have hne : s.affected named ≠ 0 := fun e => by
      rw [e] at hin
      simp [inGroups] at hin
    unfold trip
    dsimp only
    rw [if_neg hne]
    refine (afterTrip_noNearer _ _).2 g ?_
    simp only [submit_keeps, setRecords, mapGroups_group, hin, if_true, makeRecord_group_state, tripGroups,
      State.tripGroup]
    rfl

theorem weldRecord_group_state (g y : GroupId) (cause : WeldCause) (s : State) :
    ((weldRecord g cause s).group y).state = (s.group y).state := by
  unfold weldRecord
  dsimp only
  split
  · rfl
  · rw [setGroup_group]
    split
    · next e => subst e; exact makeRecord_group_state _ s y
    · exact makeRecord_group_state _ s y

theorem noNearer_weld (g : GroupId) (cause : WeldCause) (s : State) : (weld g cause s).noNearer s := by
  have welded : (weldGroup g s).noNearer s :=
    (noNearer_of_eq rfl rfl).trans (noNearer_setGroup s (v := { s.group g with
      state := .welded, coil := false, timer := none, releasePending := false }) fun _ => rfl)
  have recorded : (weldRecord g cause (weldGroup g s)).noNearer (weldGroup g s) :=
    noNearer_of_groups (by simp) fun y hy => by rw [weldRecord_group_state]; exact hy
  have reported : (submit (.groupWelded g cause ((weldRecord g cause (weldGroup g s)).group g).record)
      (weldRecord g cause (weldGroup g s))).noNearer s :=
    (noNearer_of_eq rfl rfl).trans (recorded.trans welded)
  exact (noNearer_trip _ _ _ _).trans reported

/-! ### The latches -/

theorem noNearer_stuckOnTrip (z : ZoneId) (s : State) : (stuckOnTrip z s).1.noNearer s := by
  unfold stuckOnTrip
  dsimp only
  split
  · split
    · exact noNearer_refl s
    · exact noNearer_of_eq rfl rfl
  · exact noNearer_trip _ _ _ s

/-- R135: after the trip for a stuck-on zone its group is neither CLOSING, CLOSED nor OPENING. -/
theorem stuckOnTrip_not_trippable (z : ZoneId) (s : State) :
    ((stuckOnTrip z s).1.group (s.zone z).cfg.group).state.trippable = false := by
  unfold stuckOnTrip
  dsimp only
  split
  · next h =>
    have hg : (s.group (s.zone z).cfg.group).state.trippable = false := by rw [h]; rfl
    split <;> exact hg
  · exact trip_named_not_trippable _ (by simp) _ s

/-- R33, R34: a stuck-on latch takes the zone's group off the supply, and brings no other zone nearer. -/
theorem stuckOnLatch_offSupply {z y : ZoneId} {s : State} (h : s.offSupply y) :
    (stuckOnLatch z s).offSupply y := by
  unfold stuckOnLatch
  split
  · exact h
  · rw [leaveService_eq (st := .locked) (by decide)]
    dsimp only
    let s0 := s.takenOut z .locked .zoneLocked
    have done : (stuckOnTrip z s0).1.offSupply y := by
      by_cases e : y = z
      · subst e
        intro hy
        obtain ⟨-, hgroup⟩ := (noNearer_stuckOnTrip y s0).1 y hy
        rw [State.groupOf, hgroup]
        exact stuckOnTrip_not_trippable y s0
      · refine (noNearer_stuckOnTrip z s0).offSupply ?_
        have hzone : s0.zone y = s.zone y := by rw [takenOut_zone, if_neg e]
        intro hy
        rw [hzone] at hy
        rw [State.groupOf, hzone]
        exact h hy
    exact (noNearer_of_eq (s := (stuckOnTrip z s0).1) rfl rfl).offSupply done

theorem noNearer_openLoadLatch (z : ZoneId) (s : State) : (openLoadLatch z s).noNearer s := by
  have latch : (submit (.zoneFaulted z) (leaveService z .faulted .zoneFault s).1).noNearer s :=
    (noNearer_of_eq rfl rfl).trans (noNearer_leaveService s (st := .faulted) (by decide) (by decide) z .zoneFault)
  unfold openLoadLatch
  split
  · exact latch
  · exact latch
  · exact latch
  · exact noNearer_of_eq rfl rfl
  · exact noNearer_refl s
  · exact noNearer_refl s

theorem noNearer_openStrike (z : ZoneId) (s : State) : (openStrike z s).noNearer s := by
  unfold openStrike
  dsimp only
  split
  · split
    · exact (noNearer_openLoadLatch z _).trans (noNearer_of_eq (by simp) (by simp))
    · exact noNearer_of_eq (by simp) (by simp)
  · exact noNearer_refl s

theorem stuckStrike_offSupply {z y : ZoneId} {s : State} (h : s.offSupply y) :
    (stuckStrike z s).offSupply y := by
  unfold stuckStrike
  dsimp only
  split
  · split
    · exact stuckOnLatch_offSupply ((noNearer_of_eq (by simp) (by simp)).offSupply h)
    · exact (noNearer_of_eq (by simp) (by simp)).offSupply h
  · exact h

theorem applyCheck_offSupply {z y : ZoneId} (c : CheckResult) {s : State} (h : s.offSupply y) :
    (applyCheck z c s).offSupply y := by
  have marked : ∀ b, (markStuck z b s).offSupply y := fun b => (noNearer_of_eq rfl rfl).offSupply h
  unfold applyCheck
  split
  · exact h
  · split
    · exact ((noNearer_openStrike z (markOpen z true s)).trans (noNearer_of_eq rfl rfl)).offSupply h
    · exact (noNearer_of_eq (s := s) rfl rfl).offSupply h
  · split
    · exact stuckStrike_offSupply (marked true)
    · exact marked false

theorem conductionChecks_offSupply (cs : ZoneSet) {y : ZoneId} {s : State} (h : s.offSupply y) :
    (conductionChecks cs s).offSupply y :=
  forZones_induction (State.offSupply · y) (fun _ _ hu => applyCheck_offSupply _ hu) _ _ h

theorem midPoint_offSupply (cs : ZoneSet) (first : Bool) {y : ZoneId} {s : State} (h : s.offSupply y) :
    (midPoint cs first s).offSupply y := by
  have sampled : (s.sampled cs).offSupply y := (noNearer_of_eq (s := s) rfl rfl).offSupply h
  rw [midPoint_eq]
  split
  · exact conductionChecks_offSupply cs ((noNearer_testGroups _).offSupply sampled)
  · exact (noNearer_testGroups _).offSupply (conductionChecks_offSupply cs sampled)

/-! ### The takers of a crossing, and the loss -/

theorem noNearer_supervisionAtCrossing (c : Crossing) (s : State) :
    (supervisionAtCrossing c s).noNearer s := by
  obtain ⟨u, hu, he⟩ := exists_supervisionAtCrossing c s
  have checked : u.noNearer s := by
    rcases hu with rfl | ⟨r, rfl⟩
    · exact noNearer_refl u
    · obtain ⟨w, hw, hz, -, hg⟩ := exists_checkSupply r s
      rw [hw, supplyLatch]
      split
      · exact (noNearer_trip _ _ _ _).trans (noNearer_of_eq hz hg)
      · exact noNearer_of_eq hz hg
  rw [he]
  exact (noNearer_of_eq (by split <;> simp) (by split <;> simp)).trans checked

theorem noNearer_accountZone (f : BitVec 32) (d : ZoneId → Bool) (z : ZoneId) (s : State) :
    (accountZone f d z s).noNearer s := by
  have confirm : ∀ u : State, (confirmHalts z u).noNearer u := fun u =>
    (noNearer_shrinkQueue _ z _).trans (noNearer_of_eq (by simp) (by simp))
  have fire : (fireHead z f s).noNearer s := by
    unfold fireHead
    split
    · exact noNearer_refl s
    · dsimp only
      split
      · exact (noNearer_shrinkQueue _ z _).trans (noNearer_of_eq (by split <;> simp) (by split <;> simp))
      · exact noNearer_of_eq (by split <;> simp) (by split <;> simp)
  unfold accountZone
  split
  · exact (confirm _).trans fire
  · exact confirm s

theorem noNearer_switchAtCrossing (f : BitVec 32) (l h : Nat) (syn : Bool) (s : State) :
    (switchAtCrossing f l h syn s).noNearer s :=
  (noNearer_forZones (noNearer_accountZone f _) _ _).trans (noNearer_of_eq rfl rfl)

theorem noNearer_contactorsAtCrossing (s : State) : (contactorsAtCrossing s).noNearer s := by
  refine noNearer_forGroups (fun g u => ?_) _ s
  unfold releaseAtCrossing
  split
  · exact noNearer_setGroup u fun h => h
  · exact noNearer_refl u

theorem noNearer_zonesAtBoundary (l : Nat) (b : Bool) (s : State) : (zonesAtBoundary l b s).noNearer s := by
  refine noNearer_of_zones (by simp) fun z hz => ?_
  have hzone : (zonesAtBoundary l b s).zone z =
      (if b then (s.zone z).cutTo l else s.zone z).ranDown l := by simp [zonesAtBoundary_eq, State.zone]
  have cutState : ∀ v : Zone, (v.cutTo l).state = v.state := fun v => by
    unfold Zone.cutTo
    split <;> rfl
  have ranLocked : ∀ v : Zone, (v.ranDown l).state = .locked → v.ranDown l = v := fun v hv => by
    unfold Zone.ranDown at hv ⊢
    split at hv
    · split at hv <;> cases hv
    · split at hv
      · next hd => rw [hd] at hv; cases hv
      · next h1 h2 => rw [if_neg h1, if_neg h2]
  rw [hzone] at hz ⊢
  have hran := ranLocked _ hz
  rw [hran] at hz ⊢
  split at hz
  · next hb =>
    rw [if_pos hb]
    rw [cutState] at hz
    exact if_neg fun h => by simp [hz] at h
  · next hb => rw [if_neg hb]

theorem noNearer_takeCrossing (c : Crossing) (k : Taker) (s : State) : (takeCrossing c k s).noNearer s := by
  unfold takeCrossing
  split
  · exact noNearer_switchAtCrossing _ _ _ _ s
  · exact noNearer_supervisionAtCrossing c s
  · exact noNearer_contactorsAtCrossing s
  · exact noNearer_of_eq (by simp) (by simp)
  · split
    · exact noNearer_zonesAtBoundary _ _ s
    · exact noNearer_refl s

theorem noNearer_handOn (order : List Taker) (c : Crossing) (s : State) : (handOn order c s).noNearer s :=
  handOn_induction (P := (State.noNearer · s)) (fun k u hu => (noNearer_takeCrossing c k u).trans hu) order
    (noNearer_refl s)

theorem noNearer_loseMains (s : State) : (loseMains s).noNearer s := by
  refine noNearer_of_zones (by simp) fun z hz => ?_
  have hzone : (loseMains s).zone z = (s.zone z).idled := by simp [loseMains_eq, State.zone]
  rw [hzone] at hz ⊢
  unfold Zone.idled at hz ⊢
  split at hz
  · cases hz
  · next h => rw [if_neg h]

/-! ### The contactor controller's happenings -/

theorem noNearer_testOpening (g : GroupId) (s : State) : (testOpening g s).noNearer s := by
  unfold testOpening
  split
  · exact (noNearer_of_eq rfl rfl).trans (noNearer_setGroup s (v := { s.group g with
      state := .opened, coil := false, releasePending := false, timer := none }) fun _ => rfl)
  · exact noNearer_refl s

theorem noNearer_auxHandled (g : GroupId) (s : State) : (auxHandled g s).noNearer s := by
  have contact : (stuckContact g s).noNearer s := by
    unfold stuckContact
    split
    · exact noNearer_setGroup s fun h => h
    · exact noNearer_setGroup s fun h => h
  unfold auxHandled
  split
  · exact contact
  · exact contact
  · next hst =>
    split
    · refine (noNearer_of_eq rfl rfl).trans (noNearer_setGroup s (g := g)
        (v := { s.group g with state := .closed, timer := none }) fun h => ?_)
      rw [hst] at h
      exact h
    · exact noNearer_refl s
  · split
    · exact noNearer_refl s
    · exact noNearer_trip _ _ _ s
  · exact noNearer_testOpening g s
  · exact noNearer_testGroup g s
  · exact noNearer_refl s

theorem noNearer_auxChange (g : GroupId) (s : State) : (auxChange g s).noNearer s := by
  unfold auxChange
  split
  · exact noNearer_refl s
  · next t _ =>
    let u := s.atTime (t + Config.debounce)
    have changed : (u.setGroup g { u.group g with aux := !(u.group g).aux, rawAuxSince := none }).noNearer u :=
      noNearer_setGroup u fun h => h
    exact (noNearer_auxHandled g _).trans (changed.trans (noNearer_of_eq rfl rfl))

theorem noNearer_stopChange (s : State) : (stopChange s).noNearer s := by
  unfold stopChange
  split
  · exact noNearer_refl s
  · next t _ =>
    have changed : State.noNearer { s.atTime (t + Config.debounce) with
        gcc := { (s.atTime (t + Config.debounce)).gcc with stop := !s.gcc.stop, rawStopSince := none } } s :=
      noNearer_of_groups rfl fun _ h => h
    dsimp only
    split
    · exact (noNearer_trip _ _ _ _).trans changed
    · exact changed

theorem noNearer_rawChange (line : RawLine) (level : Bool) (s : State) : (rawChange line level s).noNearer s := by
  cases line with
  | ka g => exact noNearer_setGroup s fun h => h
  | stop => exact noNearer_of_groups rfl fun _ h => h

theorem noNearer_verifyExpired (g : GroupId) (s : State) : (verifyExpired g s).noNearer s := by
  unfold verifyExpired
  split
  · refine noNearer_of_groups (by simp) fun y hy => ?_
    by_cases e : y = g
    · subst e
      rw [verifyGroup_group_self]
      rfl
    · rw [verifyGroup_group_other e]
      exact hy
  · exact noNearer_weld g _ s

/-! ### Requests -/

/-- R127: a CLOSED or CLOSING group opens. -/
theorem noNearer_open {s : State} {g : GroupId} (h : (s.group g).state.trippable = true) (v : Group) :
    (testOpening g (withdrawGroup g .groupOpened (s.setGroup g v))).noNearer s :=
  (noNearer_testOpening g _).trans ((noNearer_withdrawGroup g _ _).trans
    (noNearer_setGroup s fun h' => by rw [h] at h'; cases h'))

theorem noNearer_openGroup (g : GroupId) (s : State) : (answerOpenGroup g s).state.noNearer s := by
  unfold answerOpenGroup
  split
  · next hst =>
    rw [openFromClosed_eq]
    exact noNearer_open (by rw [hst]; rfl) _
  · next hst =>
    rw [openFromClosing_eq]
    exact noNearer_open (by rw [hst]; rfl) _
  all_goals exact noNearer_refl s

theorem noNearer_restZone (s : State) (z : ZoneId) {st : ZoneState} (h : st ≠ .locked) :
    (s.restZone z st).noNearer s := noNearer_setZone s h

theorem noNearer_configZone (z : ZoneId) (cfg : ZoneConfig) (s : State) :
    (answerConfigZone z cfg s).state.noNearer s := by
  unfold answerConfigZone
  split
  · next hst =>
    have hopen : (s.zone z).state ≠ .locked := by simp [hst]
    exact (noNearer_of_eq rfl rfl).trans
      (noNearer_setZone s (z := z) (v := { s.zone z with cfg := cfg, configured := true }) hopen)
  · exact noNearer_refl s

theorem noNearer_enableZone (z : ZoneId) (s : State) : (answerEnableZone z s).state.noNearer s := by
  unfold answerEnableZone
  split
  · split
    · exact noNearer_restZone s z (by decide)
    · exact noNearer_refl s
  · exact noNearer_refl s

theorem noNearer_disableZone (z : ZoneId) (s : State) : (answerDisableZone z s).state.noNearer s := by
  unfold answerDisableZone
  split
  · exact noNearer_refl s
  · exact noNearer_refl s
  · exact (noNearer_of_eq rfl rfl).trans
      (noNearer_leaveService s (st := .disabled) (by decide) (by decide) z .zoneDisabled)

theorem noNearer_answerSetDemand (z : ZoneId) (d : Nat) (s : State) :
    (answerSetDemand z d s).state.noNearer s := by
  have demanded : (s.setDemand z d).noNearer s := by
    unfold State.setDemand
    split
    · exact noNearer_restZone s z (by decide)
    · exact noNearer_setZone s (by simp)
  unfold answerSetDemand
  split
  · exact demanded
  · exact demanded
  all_goals exact noNearer_refl s

theorem noNearer_clearZone (z : ZoneId) (s : State) : (answerClearZone z s).state.noNearer s := by
  have cleared : (zeroScores z (s.restZone z .idle)).noNearer s :=
    (noNearer_of_eq rfl rfl).trans (noNearer_restZone s z (st := .idle) (by decide))
  unfold answerClearZone
  split
  · exact cleared
  · split
    · exact cleared
    · exact noNearer_refl s
  · exact noNearer_refl s

theorem noNearer_queueOrder (z : ZoneId) (tag : Half) (total cap : Nat) (s : State) :
    (answerQueueOrder z tag total cap s).state.noNearer s := by
  have accepted : ∀ u : State, (u.orderAccepted z).noNearer u := by
    intro u
    unfold State.orderAccepted
    split
    · exact noNearer_refl u
    · exact noNearer_restZone u z (by decide)
  unfold answerQueueOrder
  split
  · exact noNearer_refl s
  · split
    · exact noNearer_refl s
    · split
      · exact noNearer_refl s
      · exact (accepted _).trans (noNearer_of_eq rfl rfl)

theorem noNearer_abortOrder (z : ZoneId) (tag : Half) (s : State) :
    (answerAbortOrder z tag s).state.noNearer s := by
  unfold answerAbortOrder
  split
  · exact noNearer_refl s
  · split
    · split
      · exact noNearer_refl s
      · exact noNearer_shrinkQueue s z _
      · exact noNearer_of_eq rfl rfl
    · unfold abortBehind
      split
      · exact noNearer_refl s
      · exact noNearer_shrinkQueue s z _

/-- R125: a group closes only while no zone of it is LOCKED. -/
theorem closeTaken_lockedZonesSound {s : State} {g : GroupId} (hfree : s.anyLockedIn g = false)
    (h : s.lockedZonesSound) : (closeTaken g s).lockedZonesSound := by
  intro z hz
  have hne : (s.zone z).cfg.group ≠ g := fun e => by
    have hnone : ∀ y ∈ s.zonesOf g, ¬ (s.zone y).state = .locked := by simpa [State.anyLockedIn] using hfree
    exact hnone z (by simpa using e) hz
  have hgroup : (closeTaken g s).groupOf z = s.groupOf z := by
    unfold closeTaken State.groupOf
    rw [setGroup_group, if_neg (by exact hne)]
    rfl
  rw [hgroup]
  exact h z hz

theorem answer_keeps_lockedZonesSound {s : State} (r : Request) (h : s.lockedZonesSound) :
    (answer r s).state.lockedZonesSound := by
  have unchanged : ∀ {t : State}, t.zones = s.zones → t.gcc = s.gcc → t.lockedZonesSound :=
    fun hz hg => (noNearer_of_eq hz hg).keeps h
  cases r with
  | setFrame l =>
    exact unchanged (by unfold answer answerSetFrame; dsimp only; split <;> [rfl; split] <;> rfl)
      (by unfold answer answerSetFrame; dsimp only; split <;> [rfl; split] <;> rfl)
  | configZone z g c p o l f ol sl => exact (noNearer_configZone _ _ s).keeps h
  | enableZone z => exact (noNearer_enableZone _ s).keeps h
  | disableZone z => exact (noNearer_disableZone _ s).keeps h
  | setDemand z d => exact (noNearer_answerSetDemand _ _ s).keeps h
  | clearZone z => exact (noNearer_clearZone _ s).keeps h
  | queueOrder z t n c => exact (noNearer_queueOrder _ _ _ _ s).keeps h
  | abortOrder z t => exact (noNearer_abortOrder _ _ s).keeps h
  | closeGroup g =>
    rcases answerCloseGroup_cases (groupNumber g) s with e | ⟨hfree, e⟩
    · exact unchanged (congrArg State.zones e :) (congrArg State.gcc e :)
    · exact e ▸ closeTaken_lockedZonesSound hfree h
  | openGroup g => exact (noNearer_openGroup _ s).keeps h
  | ackTrip g =>
    rcases answerAckTrip_cases (groupNumber g) s with e | ⟨-, e⟩
    · exact unchanged (congrArg State.zones e :) (congrArg State.gcc e :)
    · exact e ▸ (noNearer_setGroup s fun _ => rfl).keeps h
  | tripAll => exact (noNearer_trip _ _ _ s).keeps h
  | readTripRecord n =>
    have e := answerReadTripRecord_state n s
    exact unchanged (congrArg State.zones e :) (congrArg State.gcc e :)
  | releaseTripRecord n =>
    obtain ⟨t, e⟩ := answerReleaseTripRecord_state n s
    exact unchanged (congrArg State.zones e :) (congrArg State.gcc e :)
  | setContactorTiming c o v =>
    have settings : (answerSetContactorTiming c o v s).state.noNearer s := noNearer_of_groups rfl fun _ hg => hg
    exact settings.keeps h
  | clearTally =>
    exact unchanged (by simp [answer, answerClearTally, State.grant])
      (by simp [answer, answerClearTally, State.grant])
  | _ => exact unchanged rfl rfl

/-! ### Every command -/

theorem blank_lockedZonesSound (now : Nat) (b : Straps) (raw : Vector Bool 4) (stop : Bool) (store : TripStore)
    (pending : List Instr) : (State.blank now b raw stop store pending).lockedZonesSound := by
  intro z hz
  simp [State.zone, State.blank, Zone.reset] at hz

/-- R33, R37, R125: what each part of a command keeps of the LOCKED zones' groups. -/
theorem lockedZonesSound_keptByParts : KeptByParts State.lockedZonesSound where
  frame := fun ⟨_, hz, _, _, _, _, hg, _⟩ => (noNearer_of_eq hz hg).keeps
  power := fun _ _ _ _ _ => blank_lockedZonesSound _ _ _ _ _ _
  pin := fun _ _ _ _ _ _ => blank_lockedZonesSound _ _ _ _ _ _
  retime := fun _ _ _ _ _ => (noNearer_of_eq rfl rfl).keeps
  lock := by
    intro s order _ _ _ h
    exact ((noNearer_handOn order _ _).trans (noNearer_of_eq rfl rfl)).keeps h
  cross := by
    intro s order ref syn _ _ h
    exact ((noNearer_handOn order _ _).trans (noNearer_of_eq rfl rfl)).keeps h
  lose := fun _ => (noNearer_loseMains _).keeps
  point := fun cs first _ h z => midPoint_offSupply cs first (h z)
  reading := fun _ => (noNearer_of_eq (by simp) (by simp)).keeps
  raw := fun line level => (noNearer_rawChange line level _).keeps
  aux := fun g => (noNearer_auxChange g _).keeps
  stop := (noNearer_stopChange _).keeps
  closeTimer := fun {s} g _ => ((noNearer_of_eq rfl rfl).trans (noNearer_setGroup s (g := g)
    (v := { s.group g with state := .opened, coil := false, timer := none }) fun _ => rfl)).keeps
  releaseTimer := fun {s} g _ => (noNearer_setGroup s (g := g) (v := { s.group g with
    coil := false, releasePending := false, timer := s.timerMs .opening s.gcc.openTimeout }) fun h => h).keeps
  openTimer := by
    intro s g _ h
    unfold openExpired
    split
    · exact (noNearer_weld g _ s).keeps h
    · exact h
  verifyTimer := fun g _ => (noNearer_verifyExpired g _).keeps
  stuckTimer := fun g _ => (noNearer_weld g _ _).keeps
  answered := fun r _ _ => answer_keeps_lockedZonesSound r

/-- Settles O11: every step keeps what the parts of its command keep. -/
theorem stepKeepsLockedZonesOffTheSupply : Obligations.StepKeepsLockedZonesOffTheSupply := by
  intro s t hs h
  obtain ⟨hm, -, -, -, -, -, hlocked, -⟩ := hs
  exact lockedZonesSound_keptByParts.step hm hlocked h

end Sys2Proof.Machine
end

section
/-! SUPPORT. The requests of the zone table and the order unit: what each answers, and its reply.
Settles O55, O54, O56 and O57. -/

namespace Sys2Proof.Machine

/-- R181, R190: an accepted request command in range replies with its owner's answer. -/
theorem exec_of_answer {i : Instr} {hd : Header} {r : Request} {s t : State} {type : Byte} {code : ResultCode}
    {fields : List Byte} (hi : i.requestOf = some (hd, r)) (ht : r.typeCode + 0x40 = type) (h : s.accepts hd)
    (hr : r.inRange s.mtu.len = true)
    (ha : answer r (s.received hd) = { state := t, result := code, fields := fields })
    (hc : code ≠ .unknownRequest) : exec i s = .next (t.replying hd type code fields) := by
  rw [exec_of_requestOf s hi, serve_of_answer h hr ha hc, ht]

/-! ### SET_DEMAND (R22, R25) -/

theorem answerSetDemand_taken {z : ZoneId} {d : Nat} {s : State}
    (h : (s.zone z).state = .idle ∨ (s.zone z).state = .demand) :
    answerSetDemand z d s = (s.setDemand z d).grantDemand z := by
  unfold answerSetDemand
  rcases h with h | h <;> rw [h]

theorem answerSetDemand_dosing {z : ZoneId} {d : Nat} {s : State} (h : (s.zone z).state = .dosing) :
    answerSetDemand z d s = s.deny .ordersPending := by
  unfold answerSetDemand
  rw [h]

theorem answerSetDemand_shut {z : ZoneId} {d : Nat} {s : State}
    (h : (s.zone z).state = .disabled ∨ (s.zone z).state = .faulted ∨ (s.zone z).state = .locked) :
    answerSetDemand z d s = s.deny .wrongState := by
  unfold answerSetDemand
  rcases h with h | h | h <;> rw [h]

/-- Settles O55: the answer by the zone's state, each as the reply. -/
theorem setDemandStartsAndEndsAZonesDemand : Obligations.SetDemandStartsAndEndsAZonesDemand := by
  intro hd z d s h hlen s1 v
  have hv : s1.zone z = v := (received_views s hd).1 z
  have hrange : (Request.setDemand (zoneByte z) d).inRange s.mtu.len = true := by
    simp [Request.inRange, within_iff, hlen]
  have reply : ∀ {t code fields}, code ≠ ResultCode.unknownRequest →
      answerSetDemand z d.toNat s1 = { state := t, result := code, fields := fields } →
      exec (.setDemand hd (zoneByte z) d) s = .next (t.replying hd 0x4D code fields) := fun hc ha =>
    exec_of_answer rfl rfl h hrange (by simpa only [answer, zoneOf_zoneByte] using ha) hc
  refine ⟨fun hst h0 => reply nofun ?_, fun hst h0 => reply nofun ?_, fun hst => reply nofun ?_,
    fun hst => reply nofun ?_⟩
  · rw [answerSetDemand_taken (by rw [hv]; exact hst)]
    simp [h0, State.setDemand, State.grantDemand, State.restZone, State.grant, hv, byteOf]
  · have hne : d.toNat ≠ 0 := fun e => h0 (BitVec.eq_of_toNat_eq e)
    rw [answerSetDemand_taken (by rw [hv]; exact hst)]
    simp [hne, State.setDemand, State.grantDemand, State.grant, hv, byteOf]
  · exact answerSetDemand_dosing (by rw [hv]; exact hst)
  · exact answerSetDemand_shut (by rw [hv]; exact hst)

/-! ### CONFIG_ZONE, ENABLE_ZONE, DISABLE_ZONE and CLEAR_ZONE (R19 to R21, R36, R37) -/

theorem answerDisableZone_taken {z : ZoneId} {s : State} (hl : (s.zone z).state ≠ .locked)
    (hd : (s.zone z).state ≠ .disabled) : answerDisableZone z s =
      (zeroScores z (s.takenOut z .disabled .zoneDisabled)).grant
        [byteOf (leaveService z .disabled .zoneDisabled s).2] := by
  unfold answerDisableZone
  split
  · next h => exact absurd h hl
  · next h => exact absurd h hd
  · rw [← leaveService_eq (by decide)]

theorem answerClearZone_eq (z : ZoneId) (s : State) : answerClearZone z s =
    if (s.zone z).state = .faulted ∨ ((s.zone z).state = .locked ∧ (s.groupOf z).state = .opened) then
      (zeroScores z (s.restZone z .idle)).grant []
    else if (s.zone z).state = .locked then s.deny .groupNotOpen
    else s.deny .wrongState := by
  unfold answerClearZone
  cases (s.zone z).state <;> simp

/-- Settles O54: each answer by the zone's state, as the reply. -/
theorem configEnableDisableAndClearAZone : Obligations.ConfigEnableDisableAndClearAZone := by
  intro hd z s h s1 v written
  have hv : s1.zone z = v := (received_views s hd).1 z
  have hq : s1.queue z = s.queue z := (received_views s hd).2.1 z
  have hg : s1.groupOf z = s.groupOf z := by simp [State.groupOf, s1]
  have zoneRequest : ∀ {i : Instr} {r : Request} {t : State} {type : Byte} {code : ResultCode}
      {fields : List Byte}, i.requestOf = some (hd, r) → r.typeCode + 0x40 = type →
      r.inRange s.mtu.len = zoneInRange (zoneByte z) → code ≠ .unknownRequest →
      answer r s1 = { state := t, result := code, fields := fields } →
      exec i s = .next (t.replying hd type code fields) := fun hi ht hr hc ha =>
    exec_of_answer hi ht h (hr.trans (zoneInRange_zoneByte z)) ha hc
  refine ⟨fun g c p o l f ol sl hc1 hc2 ho hf hol hsl => ?_, ?_, fun hst => ?_, fun hst => ?_,
    fun hl hdis => ?_, ?_⟩
  · have hp : (groupByte p).toNat ≤ 3 := by rw [groupByte_toNat]; omega
    have hrange : (Request.configZone (zoneByte z) (groupByte g) c (groupByte p) o l f ol sl).inRange s.mtu.len
        = true := by
      have := ol.isLt
      have := sl.isLt
      simp only [Request.inRange, zoneInRange_zoneByte, groupInRange_groupByte, Bool.and_eq_true, within_iff,
        true_and]
      omega
    let cfg : ZoneConfig :=
      { group := g, current := c.toNat, prio := p, offset := o.toNat, lease := l.toNat,
        fallback := f.toNat, openLimit := ol.toNat, stuckLimit := sl.toNat }
    have reply : ∀ {t code fields}, code ≠ ResultCode.unknownRequest →
        answerConfigZone z cfg s1 = { state := t, result := code, fields := fields } →
        exec (.configZone hd (zoneByte z) (groupByte g) c (groupByte p) o l f ol sl) s =
          .next (t.replying hd 0x4A code fields) := fun hc ha =>
      exec_of_answer rfl rfl h hrange
        (by simpa only [answer, zoneOf_zoneByte, groupNumber_groupByte] using ha) hc
    split
    · next hst =>
      refine reply nofun ?_
      rw [answerConfigZone, if_pos (by rw [hv]; exact hst), hv]
      rfl
    · next hst =>
      refine reply nofun ?_
      rw [answerConfigZone, if_neg (by rw [hv]; exact hst)]
      rfl
  · have reply : ∀ {t code fields}, code ≠ ResultCode.unknownRequest →
        answerEnableZone z s1 = { state := t, result := code, fields := fields } →
        exec (.enableZone hd (zoneByte z)) s = .next (t.replying hd 0x4B code fields) := fun hc ha =>
      zoneRequest rfl rfl rfl hc (by simpa only [answer, zoneOf_zoneByte] using ha)
    split
    · next hst => exact reply nofun (by simp [answerEnableZone, hv, hst, State.deny])
    · next hst =>
      have hst' : v.state = .disabled := by simpa using hst
      split
      · next hconf => exact reply nofun (by simp [answerEnableZone, hv, hst', hconf, State.deny])
      · next hconf =>
        exact reply nofun (by simp [answerEnableZone, hv, hst', hconf, State.grant, State.restZone])
  · exact zoneRequest rfl rfl rfl nofun (by simp [answer, answerDisableZone, hv, hst, State.deny])
  · exact zoneRequest rfl rfl rfl nofun (by simp [answer, answerDisableZone, hv, hst, State.grant])
  · refine zoneRequest rfl rfl rfl nofun ?_
    rw [answer, zoneOf_zoneByte, answerDisableZone_taken (by rw [hv]; exact hl) (by rw [hv]; exact hdis),
      leaveService_count, hq]
    rfl
  · have hclear := answerClearZone_eq z s1
    rw [hv, hg] at hclear
    have reply : ∀ {t code fields}, code ≠ ResultCode.unknownRequest →
        answerClearZone z s1 = { state := t, result := code, fields := fields } →
        exec (.clearZone hd (zoneByte z)) s = .next (t.replying hd 0x4E code fields) := fun hc ha =>
      zoneRequest rfl rfl rfl hc (by simpa only [answer, zoneOf_zoneByte] using ha)
    split
    · next hst =>
      rw [if_pos hst] at hclear
      refine reply nofun (hclear.trans ?_)
      rw [State.restZone, hv]
      rfl
    · next hst =>
      rw [if_neg hst] at hclear
      split
      · next hl => exact reply nofun (hclear.trans (if_pos hl))
      · next hl => exact reply nofun (hclear.trans (if_neg hl))

end Sys2Proof.Machine
end

section
/-! SUPPORT. QUEUE_ORDER and ABORT_ORDER: each answer as one change of a zone's record and queue, and its reply.
Settles O56 and O57. -/

namespace Sys2Proof.Machine

/-! ### QUEUE_ORDER (R27, R41, R43, R44) -/

theorem refusesOrders_iff (st : ZoneState) :
    st.refusesOrders = true ↔ st = .disabled ∨ st = .faulted ∨ st = .locked := by
  cases st <;> simp [ZoneState.refusesOrders]

theorem anyTag_iff (q : List Order) (tag : Half) :
    q.any (fun o => o.tag == tag) = true ↔ ∃ o ∈ q, o.tag = tag := by
  simp

/-- R27: the record of a zone that takes an order. -/
def Zone.taking (v : Zone) : Zone :=
  if v.state = .dosing then v else { v with state := .dosing, demand := 0, leaseLeft := 0 }

theorem orderAccepted_eq (s : State) (z : ZoneId) : s.orderAccepted z = s.setZone z (s.zone z).taking := by
  unfold State.orderAccepted Zone.taking
  split
  · rw [setZone_self]
  · rfl

/-- R41: an order as it is accepted. -/
def newOrder (tag handle : Half) (total cap : Nat) : Order :=
  { tag := tag, handle := handle, total := total, cap := cap, fired := 0, remaining := total,
    state := .queued }

/-- R27, R41, R43: an accepted order is the last of its queue. -/
theorem appendOrder_eq (s : State) (z : ZoneId) (tag : Half) (total cap : Nat) :
    s.appendOrder z tag total cap = { s with
      zones := s.zones.set z.val (s.zone z).taking z.isLt,
      orders := {
        queues := s.orders.queues.set z.val (s.queue z ++ [newOrder tag s.nextHandle total cap]) z.isLt,
        counter := s.nextHandle + 1 } } := by
  unfold State.appendOrder
  dsimp only
  rw [orderAccepted_eq]
  rfl

theorem received_nextHandle (s : State) (hd : Header) : (s.received hd).nextHandle = s.nextHandle := by
  simp [State.nextHandle, State.heldHandles]

/-- Settles O56: the three refusals in their order, and the grant as `appendOrder_eq`. -/
theorem queueOrderAppendsAnOrder : Obligations.QueueOrderAppendsAnOrder := by
  intro hd z tag total cap s h htag htotal hcap1 hcap2 s1 v shut held taken order
  have hv : s1.zone z = v := (received_views s hd).1 z
  have hq : s1.queue z = s.queue z := (received_views s hd).2.1 z
  have hrange : (Request.queueOrder (zoneByte z) tag total cap).inRange s.mtu.len = true := by
    have ht : tag.toNat ≠ 0 := fun e => htag (BitVec.eq_of_toNat_eq e)
    have hn : total.toNat ≠ 0 := fun e => htotal (BitVec.eq_of_toNat_eq e)
    have := tag.isLt
    have := total.isLt
    simp only [Request.inRange, zoneInRange_zoneByte, Bool.and_eq_true, within_iff, true_and]
    omega
  have hshut : (s1.zone z).state.refusesOrders = true ↔ shut := by rw [hv]; exact refusesOrders_iff _
  have hheld : (s1.queue z).any (fun o => o.tag == tag) = true ↔ held := by rw [hq]; exact anyTag_iff _ _
  have hfull : Config.queueDepth ≤ (s1.queue z).length ↔ 4 ≤ (s.queue z).length := by rw [hq]; rfl
  have reply : ∀ {t code fields}, code ≠ ResultCode.unknownRequest →
      answerQueueOrder z tag total.toNat cap.toNat s1 = { state := t, result := code, fields := fields } →
      exec (.queueOrder hd (zoneByte z) tag total cap) s = .next (t.replying hd 0x50 code fields) := fun hc ha =>
    exec_of_answer rfl rfl h hrange (by simpa only [answer, zoneOf_zoneByte] using ha) hc
  refine ⟨fun h1 => reply nofun ?_, fun h1 h2 => reply nofun ?_, fun h1 h2 h3 => reply nofun ?_,
    fun h1 h2 h3 => reply nofun ?_⟩
  · rw [answerQueueOrder, if_pos (hshut.mpr h1)]
    rfl
  · rw [answerQueueOrder, if_neg (hshut.not.mpr h1), if_pos (hfull.mpr h2)]
    rfl
  · rw [answerQueueOrder, if_neg (hshut.not.mpr h1), if_neg (hfull.not.mpr (Nat.not_le.mpr h2)),
      if_pos (hheld.mpr h3)]
    rfl
  · rw [answerQueueOrder, if_neg (hshut.not.mpr h1), if_neg (hfull.not.mpr (Nat.not_le.mpr h2)),
      if_neg (hheld.not.mpr h3), appendOrder_eq, hv, hq, received_nextHandle]
    rfl

/-! ### ABORT_ORDER (R50, R51, R28) -/

/-- R28: the record of a zone whose queue is left with some orders or none. -/
def Zone.leftWith (v : Zone) (q : List Order) : Zone :=
  if q = [] ∧ v.state = .dosing then { v with state := .idle } else v

/-- R28: a queue that held an order is left with others or none. -/
theorem shrinkQueue_eq {s : State} {z : ZoneId} (hne : s.queue z ≠ []) (q : List Order) :
    s.shrinkQueue z q = { s with
      zones := s.zones.set z.val ((s.zone z).leftWith q) z.isLt,
      orders := { s.orders with queues := s.orders.queues.set z.val q z.isLt } } := by
  have written : ∀ v : Zone, (s.setQueue z q).setZone z v = { s with
      zones := s.zones.set z.val v z.isLt,
      orders := { s.orders with queues := s.orders.queues.set z.val q z.isLt } } := fun _ => rfl
  have kept : s.setQueue z q = (s.setQueue z q).setZone z (s.zone z) := (setZone_self (s.setQueue z q) z).symm
  have hheld : (s.queue z).isEmpty = false := by simpa using hne
  rw [← written, Zone.leftWith, State.shrinkQueue, hheld]
  by_cases hnil : q = []
  · subst hnil
    by_cases hst : (s.zone z).state = .dosing
    · simp [State.lastOrderGone, hst]
    · simpa [State.lastOrderGone, hst] using kept
  · have hempty : q.isEmpty = false := by simpa using hnil
    simpa [hnil, hempty] using kept

/-- Settles O57: the rows of Table 3-4, each as the reply. -/
theorem abortOrderRemovesOrHalts : Obligations.AbortOrderRemovesOrHalts := by
  intro hd z tag s h htag s1 v rested left counts
  have hv : s1.zone z = v := (received_views s hd).1 z
  have hq : s1.queue z = s.queue z := (received_views s hd).2.1 z
  have hrange : (Request.abortOrder (zoneByte z) tag).inRange s.mtu.len = true := by
    have ht : tag.toNat ≠ 0 := fun e => htag (BitVec.eq_of_toNat_eq e)
    have := tag.isLt
    simp only [Request.inRange, zoneInRange_zoneByte, Bool.and_eq_true, within_iff, true_and]
    omega
  have hshrink : ∀ q, s.queue z ≠ [] → s1.shrinkQueue z q = left q := fun q hne => by
    rw [shrinkQueue_eq (by rw [hq]; exact hne), hv]
    rfl
  have reply : ∀ {t code fields}, code ≠ ResultCode.unknownRequest →
      answerAbortOrder z tag s1 = { state := t, result := code, fields := fields } →
      exec (.abortOrder hd (zoneByte z) tag) s = .next (t.replying hd 0x51 code fields) := fun hc ha =>
    exec_of_answer rfl rfl h hrange (by simpa only [answer, zoneOf_zoneByte] using ha) hc
  refine ⟨fun hnone => reply nofun ?_, fun o rest hqz ho =>
    ⟨fun hst => reply nofun ?_, fun hst => reply nofun ?_, fun hst => reply nofun ?_⟩,
    fun a o b hqz hne ho hother => reply nofun ?_⟩
  · unfold answerAbortOrder
    cases hqz : s.queue z with
    | nil => rw [hq, hqz]; rfl
    | cons x xs =>
      rw [hqz] at hnone
      have hx : x.tag ≠ tag := hnone x List.mem_cons_self
      have hxs : xs.find? (fun o => o.tag == tag) = none := by
        simpa using fun y hy => hnone y (List.mem_cons_of_mem x hy)
      rw [hq, hqz]
      simp only [if_neg hx, abortBehind, hxs]
      rfl
  · unfold answerAbortOrder
    rw [hq, hqz]
    simp only [if_pos ho]
    cases hs : o.state with
    | halting => rfl
    | queued | planned | active => simp [Order.isHalting, hs] at hst
  · have := hshrink rest (by rw [hqz]; exact List.cons_ne_nil _ _)
    unfold answerAbortOrder
    rw [hq, hqz]
    simp only [if_pos ho, hst, this]
    rfl
  · unfold answerAbortOrder
    rw [hq, hqz]
    rcases hst with hst | hst
    · simp only [if_pos ho, hst]
      rfl
    · simp only [if_pos ho, hst]
      rfl
  · cases a with
    | nil => exact absurd rfl hne
    | cons x xs =>
      have hx : x.tag ≠ tag := hother x (by simp)
      have hxs : ∀ y ∈ xs, y.tag ≠ tag := fun y hy => hother y (by simp [hy])
      have hb : ∀ y ∈ b, y.tag ≠ tag := fun y hy => hother y (by simp [hy])
      have hfind : (xs ++ o :: b).find? (fun y => y.tag == tag) = some o := by
        rw [List.find?_append, List.find?_eq_none.mpr (by simpa using hxs)]
        simp [ho]
      have hfilter : (xs ++ o :: b).filter (fun y => y.tag != tag) = xs ++ b := by
        rw [List.filter_append, List.filter_cons_of_neg (by simp [ho]),
          List.filter_eq_self.mpr (by simpa using hxs), List.filter_eq_self.mpr (by simpa using hb)]
      have := hshrink (x :: (xs ++ b)) (by rw [hqz]; simp)
      unfold answerAbortOrder
      rw [hq, hqz]
      simp only [List.cons_append, if_neg hx, abortBehind, hfind, hfilter, this]
      rfl

end Sys2Proof.Machine
end

section
/-! SUPPORT. OPEN_GROUP: the withdrawal of the group's zones, the group's record, and the reply. Settles O59. -/

namespace Sys2Proof.Machine

/-! ### The group that opens (R127 to R129) -/

theorem withdrawnOf_setGroup (s : State) (g : GroupId) (v : Group) (hit : GroupId → Bool) (r : HaltReason) :
    (s.setGroup g v).withdrawnOf hit r = (s.withdrawnOf hit r).setGroup g v := rfl

theorem withdrawnOf_gcc (s : State) (hit : GroupId → Bool) (r : HaltReason) :
    (s.withdrawnOf hit r).gcc = s.gcc := by
  simp only [State.withdrawnOf]

theorem offerAll_one (q : ReportQueue) (r : Report) : q.offerAll [r] = q.offer r := rfl

/-- R129: a group whose aux shows closed stays in OPENING. -/
theorem testOpening_of_closed_aux {s : State} {g : GroupId} {v : Group} (ha : v.aux = true) :
    testOpening g (s.setGroup g v) = s.setGroup g v := by
  simp [testOpening, ha]

/-- R129: a group that enters OPENING with its aux open is OPEN at once. -/
theorem testOpening_of_open_aux {s : State} {g : GroupId} {v : Group} (hst : v.state = .opening)
    (ha : v.aux = false) : testOpening g (s.setGroup g v) = submit (.groupOpened g) (s.setGroup g { v with
      state := .opened, coil := false, releasePending := false, timer := none }) := by
  simp [testOpening, openConfirmed, hst, ha, setGroup_setGroup]

/-- R127 to R129: a CLOSED group whose aux shows closed. -/
theorem answerOpenGroup_closed {s : State} {g : GroupId} (hst : (s.group g).state = .closed)
    (ha : (s.group g).aux = true) : answerOpenGroup g s =
      ((s.withdrawnOf (fun y => y == g) .groupOpened).setGroup g (s.openingFromClosed g)).grantGroup g := by
  have haux : (s.openingFromClosed g).aux = true := by
    unfold State.openingFromClosed
    split <;> exact ha
  unfold answerOpenGroup
  rw [hst]
  dsimp only
  rw [openFromClosed_eq, withdrawGroup_eq, withdrawnOf_setGroup, testOpening_of_closed_aux haux]

/-- R127, R129: a CLOSING group whose aux shows open. -/
theorem answerOpenGroup_closing {s : State} {g : GroupId} (hst : (s.group g).state = .closing)
    (ha : (s.group g).aux = false) : answerOpenGroup g s =
      (submit (.groupOpened g) ((s.withdrawnOf (fun y => y == g) .groupOpened).setGroup g { s.group g with
        state := .opened, coil := false, releasePending := false, timer := none })).grantGroup g := by
  unfold answerOpenGroup
  rw [hst]
  dsimp only
  rw [openFromClosing_eq, withdrawGroup_eq, withdrawnOf_setGroup,
    testOpening_of_open_aux (v := s.openingFromClosing g) rfl ha]
  rfl

/-- Settles O59: the answer by the group's state, each as the reply. -/
theorem openGroupWithdrawsThenReleasesTheCoil : Obligations.OpenGroupWithdrawsThenReleasesTheCoil := by
  intro hd g s h s1 v opens
  have hv : s1.group g = v := (received_views s hd).2.2 g
  have reply : ∀ {t code fields}, code ≠ ResultCode.unknownRequest →
      answerOpenGroup g s1 = { state := t, result := code, fields := fields } →
      exec (.openGroup hd (groupByte g)) s = .next (t.replying hd 0x5B code fields) := fun hc ha =>
    exec_of_answer rfl rfl h (groupInRange_groupByte g) (by simpa only [answer, groupNumber_groupByte] using ha)
      hc
  have granted : ∀ (u : State) (w : Group), (u.setGroup g w).grantGroup g =
      { state := u.setGroup g w, result := .ok, fields := [w.state.code] } := fun u w => by
    rw [State.grantGroup, setGroup_group_self]
    rfl
  have written : ∀ (w : Group), (s1.withdrawnOf (fun y => y == g) .groupOpened).setGroup g w =
      { s1.withdrawnOf (fun y => y == g) .groupOpened with
        gcc := { s.gcc with groups := s.gcc.groups.set g.val w g.isLt } } := fun w => by
    have hgcc : s1.gcc = s.gcc := by simp [s1]
    rw [State.setGroup, withdrawnOf_gcc, hgcc]
  refine ⟨fun hst ha hl => ?_, fun hst ha hl => ?_, fun hst ha => ?_, fun hst => ?_, fun hst => ?_⟩
  · have hopening : s1.openingFromClosed g = { v with
        state := .opening, releasePending := true,
        timer := some { kind := .release, expiry := max s.now hd.time + 1250 } } := by
      simp [State.openingFromClosed, State.isLocked, s1, hl, v, Config.releaseDeadline]
    refine reply nofun ?_
    rw [answerOpenGroup_closed (by rw [hv]; exact hst) (by rw [hv]; exact ha), granted, hopening, written]
    rfl
  · have hopening : s1.openingFromClosed g = { v with
        state := .opening, coil := false, releasePending := false,
        timer := some { kind := .opening, expiry := max s.now hd.time + s.gcc.openTimeout * 100 } } := by
      simp [State.openingFromClosed, State.isLocked, s1, hl, v, State.timerMs, State.afterMs, Config.unitsPerMs]
    refine reply nofun ?_
    rw [answerOpenGroup_closed (by rw [hv]; exact hst) (by rw [hv]; exact ha), granted, hopening, written]
    rfl
  · refine reply nofun ?_
    rw [answerOpenGroup_closing (by rw [hv]; exact hst) (by rw [hv]; exact ha), written, hv]
    have hself := setGroup_group_self (s1.withdrawnOf (fun y => y == g) .groupOpened) g
    simp only [written] at hself
    simp only [State.grantGroup, State.grant, submit_keeps, hself]
    simp only [submit, offerAll_one]
  · refine reply nofun ?_
    rw [answerOpenGroup, hv]
    rcases hst with hst | hst <;> simp [hst, State.grantGroup, State.grant, hv]
  · refine reply nofun ?_
    rw [answerOpenGroup, hv]
    rcases hst with hst | hst | hst <;> simp [hst, State.deny]

end Sys2Proof.Machine
end

section
/-! SUPPORT. The queries of the zones, the plan, the tallies and the trip record store: the bytes of their
replies, field by field. Settles O52. -/

namespace Sys2Proof.Machine

/-! ### The zone and its orders (R38, R58) -/

theorem headBytes_eq (q : List Order) : headBytes q = match q with
    | [] => [0, 0, 0, 0, 0, 0]
    | o :: _ => leBytes 2 o.tag.toNat ++ leBytes 2 o.fired ++ leBytes 2 o.remaining := by
  cases q <;> rfl

theorem Order.bytes_eq (o : Order) : o.bytes =
    leBytes 2 o.tag.toNat ++ leBytes 2 o.handle.toNat ++ leBytes 2 o.total ++ [BitVec.ofNat 8 o.cap] ++
      leBytes 2 o.fired ++ leBytes 2 o.remaining ++ [o.state.code, o.state.reasonCode] := by
  rw [Order.bytes, half_bytes_eq, half_bytes_eq]
  rfl

/-! ### The plan (R64, R85) -/

theorem flagByte_isSome {α : Type} [DecidableEq α] (o : Option α) :
    flagByte o.isSome = if o = none then 0 else 1 := by
  cases o <;> rfl

theorem received_presentPlan (s : State) (hd : Header) :
    (s.received hd).presentPlan = s.governing s.mtu.frame s.mtu.len := by
  simp only [State.presentPlan, State.governing, received_keeps]

theorem received_readEntry (s : State) (hd : Header) (p : Option Plan) (z : ZoneId) :
    (s.received hd).readEntry p z = s.readEntry p z := by
  simp only [State.readEntry, received_views]

/-! ### A trip record (R155, R157, Table 11-10) -/

/-- Table 11-10, byte 5: the five flags as a sum of powers of two. -/
theorem TripRecord.flags_eq (r : TripRecord) : r.flags =
    BitVec.ofNat 8 ((if r.released then 1 else 0) + (if r.drive.isSome then 2 else 0) +
      (if r.supply.isSome then 4 else 0) + (if r.conduction.isSome then 8 else 0) +
      (if r.drive.any (·.synthetic) then 16 else 0)) := by
  have bits : ∀ a b c d e : Bool,
      flagByte a ||| (flagByte b <<< 1) ||| (flagByte c <<< 2) ||| (flagByte d <<< 3) |||
        (flagByte e <<< 4) =
      BitVec.ofNat 8 ((if a then 1 else 0) + (if b then 2 else 0) + (if c then 4 else 0) +
        (if d then 8 else 0) + (if e then 16 else 0)) := by decide
  rw [← bits]
  unfold TripRecord.flags
  cases r.drive <;> rfl

theorem driveBytes_eq (d : Option DriveRecord) : driveBytes d = match d with
    | none => List.replicate 9 0
    | some k => leBytes 4 k.frame.toNat ++ [BitVec.ofNat 8 k.h, k.status.code] ++ leBytes 3 k.set.toNat := by
  cases d <;> rfl

theorem supplyBytes_eq (c : Option SupplyCheck) : supplyBytes c = match c with
    | none => List.replicate 9 0
    | some k => leBytes 4 k.frame.toNat ++ [BitVec.ofNat 8 k.h] ++ leBytes 2 k.expected ++
        leBytes 2 k.measured := by
  cases c <;> rfl

theorem conductionBytes_eq (c : Option Sample) : conductionBytes c = match c with
    | none => List.replicate 8 0
    | some k => leBytes 4 k.frame.toNat ++ [BitVec.ofNat 8 k.h] ++ leBytes 3 k.set.toNat := by
  cases c <;> rfl

theorem TripRecord.isPending_iff (r : TripRecord) :
    r.isPending = true ↔ ∃ g : GroupId, r.outcomes[g] = .pending := by
  simp [TripRecord.isPending, allGroups]

theorem TripRecord.briefBytes_eq (r : TripRecord) : r.briefBytes =
    leBytes 2 r.number.toNat ++ [r.cause.code,
      if (∃ g : GroupId, r.outcomes[g] = .pending) then 1 else 0, if r.released then 1 else 0] := by
  simp only [TripRecord.briefBytes, half_bytes_eq, flagByte_eq, isPending_iff]

/-- R155: does the number of a READ_TRIP_RECORD name the record? -/
def TripRecord.namedBy (n : Half) (r : TripRecord) : Bool :=
  if n = 0 then !r.released else r.number == n

theorem TripStore.named_eq (t : TripStore) (n : Half) : t.named n = t.records.find? (·.namedBy n) := by
  unfold TripStore.named TripRecord.namedBy
  split <;> rfl

theorem TripRecord.namedBy_iff (n : Half) (r : TripRecord) :
    r.namedBy n = true ↔ if n = 0 then r.released = false else r.number = n := by
  unfold TripRecord.namedBy
  split <;> simp

theorem TripStore.named_of_first {t : TripStore} {n : Half} {a b : List TripRecord} {r : TripRecord}
    (h : t.records = a ++ r :: b) (hr : r.namedBy n = true) (ha : ∀ x ∈ a, ¬ x.namedBy n = true) :
    t.named n = some r := by
  rw [named_eq, h, List.find?_append, List.find?_eq_none.mpr ha, List.find?_cons_of_pos hr]
  rfl

theorem answerReadTripRecord_found {n : Half} {r : TripRecord} {s : State} (h : s.store.named n = some r) :
    answerReadTripRecord n s = s.grant r.bytes := by
  rw [answerReadTripRecord, h]

theorem answerReadTripRecord_absent {n : Half} {s : State} (h : s.store.named n = none) :
    answerReadTripRecord n s = s.deny .notFound := by
  rw [answerReadTripRecord, h]

/-- Settles O52: each query is granted on the state in which it is taken, with these fields. -/
theorem queriesOfZonesPlansAndRecordsAnswerFromTheState :
    Obligations.QueriesOfZonesPlansAndRecordsAnswerFromTheState := by
  intro hd s h s1 y limits
  have reply : ∀ {i : Instr} {r : Request} {type : Byte} {fields : List Byte},
      i.requestOf = some (hd, r) → r.typeCode + 0x40 = type → r.inRange s.mtu.len = true →
      answer r s1 = s1.grant fields → exec i s = .next (s1.replying hd type .ok fields) :=
    fun hi ht hr ha => exec_of_answer hi ht h hr ha nofun
  have hzone : ∀ z, zoneInRange (zoneByte z) = true := zoneInRange_zoneByte
  refine ⟨fun z => reply rfl rfl (hzone z) ?_, fun z => reply rfl rfl (hzone z) ?_,
    fun z => reply rfl rfl (hzone z) ?_, reply rfl rfl rfl ?_, fun z => reply rfl rfl (hzone z) ?_,
    fun n a r b hs hr ha => ?_, fun n hn => ?_, reply rfl rfl rfl ?_⟩
  · simp only [answer, zoneOf_zoneByte, answerQueryZone, ZoneConfig.bytes, headBytes_eq, flagByte_eq, byteOf,
      received_views, received_keeps, s1]
    rfl
  · simp only [answer, zoneOf_zoneByte, answerQueryOrders, Order.bytes_eq, byteOf, received_views, s1]
  · simp only [answer, zoneOf_zoneByte, answerQueryPlan, received_presentPlan, received_readEntry,
      flagByte_isSome, received_keeps, s1]
    rfl
  · simp only [answer, answerQueryFrameSummary, received_keeps, s1]
    rfl
  · simp only [answer, zoneOf_zoneByte, answerQueryTally, State.drv, received_keeps, s1]
    rfl
  · have hstore : s1.store.named n = some r := by
      refine TripStore.named_of_first (a := a) (b := b) (by simpa [s1] using hs) ?_ ?_
      · exact (TripRecord.namedBy_iff n r).mpr hr
      · exact fun x hx => by simpa only [TripRecord.namedBy_iff] using ha x hx
    refine reply rfl rfl rfl ?_
    simp only [answer, answerReadTripRecord_found hstore, TripRecord.bytes, half_bytes_eq, r.flags_eq,
      driveBytes_eq, supplyBytes_eq, conductionBytes_eq, groupSetByte]
    rfl
  · have hstore : s1.store.named n = none := by
      rw [TripStore.named_eq, List.find?_eq_none]
      intro x hx
      have := hn x (by simpa [s1] using hx)
      rw [TripRecord.namedBy_iff]
      split at this <;> simp_all
    exact exec_of_answer rfl rfl h rfl (answerReadTripRecord_absent hstore) nofun
  · simp only [answer, answerQueryTripStore, TripRecord.briefBytes_eq, half_bytes_eq, byteOf, received_keeps,
      s1]

end Sys2Proof.Machine
end

section
/-! SUPPORT. A trip as one change of the state: the number of a new record, the record in the store, and
the first tests of the groups it takes (R132, R133, R138, R150, R151). -/

namespace Sys2Proof.Machine

/-! ### The number of a new record (R150) -/

/-- R150: the numbers count from 1 to 65535 round and round. -/
theorem iterate_nextNumber_toNat {n : Half} (hn : n ≠ 0) (i : Nat) :
    (nextNumber^[i] n).toNat = (n.toNat - 1 + i) % 65535 + 1 := by
  have hpos : 0 < n.toNat := Nat.pos_of_ne_zero fun e => hn (BitVec.eq_of_toNat_eq e)
  induction i with
  | zero => simp only [Function.iterate_zero, id]; omega
  | succ i ih =>
    rw [Function.iterate_succ_apply']
    generalize nextNumber^[i] n = m at ih
    unfold nextNumber
    split
    · next e => subst e; simp at ih ⊢; omega
    · next e =>
      have hm : m.toNat ≠ 65535 := fun h => e (BitVec.eq_of_toNat_eq h)
      rw [BitVec.toNat_add]
      simp
      omega

theorem iterate_nextNumber_ne_zero {n : Half} (hn : n ≠ 0) (i : Nat) : nextNumber^[i] n ≠ 0 := by
  intro e
  have h := iterate_nextNumber_toNat hn i
  rw [e] at h
  simp at h

/-- The search ends at a number of its walk, and if that one is held the whole walk is. -/
theorem freeNumber_walk (held : List Half) (fuel : Nat) (n : Half) :
    ∃ i, freeNumber held fuel n = nextNumber^[i] n ∧
      (freeNumber held fuel n ∈ held → ∀ j ≤ fuel, nextNumber^[j] n ∈ held) := by
  induction fuel generalizing n with
  | zero => exact ⟨0, rfl, fun h j hj => by rwa [Nat.le_zero.mp hj]⟩
  | succ fuel ih =>
    by_cases h : n ∈ held
    · obtain ⟨i, hi, hwalk⟩ := ih (nextNumber n)
      have step : freeNumber held (fuel + 1) n = freeNumber held fuel (nextNumber n) := by
        simp [freeNumber, h]
      refine ⟨i + 1, by rw [step, hi]; rfl, fun hfree j hj => ?_⟩
      cases j with
      | zero => exact h
      | succ j => exact hwalk (step ▸ hfree) j (Nat.le_of_succ_le_succ hj)
    · have stop : freeNumber held (fuel + 1) n = n := by simp [freeNumber, h]
      exact ⟨0, stop, fun hfree => absurd (stop ▸ hfree) h⟩

/-- R150: among at most 8 held numbers the search finds a free one. -/
theorem freeNumber_not_held {held : List Half} (hlen : held.length ≤ 8) {n : Half} (hn : n ≠ 0) :
    freeNumber held 9 n ∉ held := by
  obtain ⟨i, -, hwalk⟩ := freeNumber_walk held 9 n
  intro hfree
  have hnodup : ((List.range 10).map fun j => nextNumber^[j] n).Nodup := by
    refine List.Nodup.map_on (fun a ha b hb e => ?_) List.nodup_range
    have h := congrArg BitVec.toNat e
    rw [iterate_nextNumber_toNat hn, iterate_nextNumber_toNat hn] at h
    rw [List.mem_range] at ha hb
    omega
  have hsub : ((List.range 10).map fun j => nextNumber^[j] n) ⊆ held := by
    intro m hm
    obtain ⟨j, hj, rfl⟩ := List.mem_map.mp hm
    exact hwalk hfree j (Nat.le_of_lt_succ (List.mem_range.mp hj))
  have := (hnodup.subperm hsub).length_le
  simp at this
  omega

theorem freeNumber_ne_zero (held : List Half) (fuel : Nat) {n : Half} (hn : n ≠ 0) :
    freeNumber held fuel n ≠ 0 := by
  obtain ⟨i, hi, -⟩ := freeNumber_walk held fuel n
  rw [hi]
  exact iterate_nextNumber_ne_zero hn i

/-! ### A new record in the store (R151) -/

theorem dropReplaceable_sublist {rs : List TripRecord} {old : Half} {left : List TripRecord}
    (h : dropReplaceable rs = some (old, left)) : left.Sublist rs := by
  induction rs generalizing left with
  | nil => cases h
  | cons r rs ih =>
    unfold dropReplaceable at h
    split at h
    · cases h; exact List.sublist_cons_self r _
    · split at h
      · next e => cases h; exact (ih e).cons_cons r
      · cases h

/-- R150, R151: a store that makes a record answers the record's number, which no other record has, or
answers 0 and holds what it held. -/
theorem create_spec {t : TripStore} (hlen : t.records.length ≤ 8) (hnext : t.next ≠ 0)
    (h0 : ∀ r ∈ t.records, r.number ≠ 0) (r : TripRecord) :
    (∀ x ∈ (t.create r).1.records, x.number ≠ 0) ∧
    ∀ x ∈ (t.create r).1.records, x.number = (t.create r).2.1 →
      x = { r with number := (t.create r).2.1 } := by
  have written : ∀ rs : List TripRecord, rs.length ≤ 8 → (∀ x ∈ rs, x.number ≠ 0) →
      (∀ x ∈ ({ t with records := rs }.write r).1.records, x.number ≠ 0) ∧
      ∀ x ∈ ({ t with records := rs }.write r).1.records, x.number = ({ t with records := rs }.write r).2 →
        x = { r with number := ({ t with records := rs }.write r).2 } := by
    intro rs hrs hrs0
    have hfresh : ({ t with records := rs } : TripStore).newNumber ∉ rs.map (·.number) :=
      freeNumber_not_held (by simpa using hrs) hnext
    refine ⟨fun x hx => ?_, fun x hx hn => ?_⟩
    · rcases List.mem_append.mp hx with hx | hx
      · exact hrs0 x hx
      · rw [List.mem_singleton.mp hx]
        exact freeNumber_ne_zero _ _ hnext
    · rcases List.mem_append.mp hx with hx | hx
      · exact absurd (List.mem_map.mpr ⟨x, hx, hn⟩) hfresh
      · exact List.mem_singleton.mp hx
  unfold TripStore.create
  split
  · exact written t.records hlen h0
  · split
    · next e =>
      have hsub := dropReplaceable_sublist e
      exact written _ (hsub.length_le.trans hlen) fun x hx => h0 x (hsub.subset hx)
    · exact ⟨h0, fun x hx e => absurd e (h0 x hx)⟩

/-- R151, R133 step 1: a record made, and the groups that held a discarded number. -/
theorem makeRecord_eq (r : TripRecord) (s : State) : makeRecord r s =
    ({ s with
      gcc := { s.gcc with groups := Vector.ofFn fun g => { s.group g with
        record := if (s.store.create r).2.2 = some (s.group g).record then 0 else (s.group g).record } },
      store := (s.store.create r).1 }, (s.store.create r).2.1) := by
  unfold makeRecord
  split
  · next t n old e =>
    have hgroups : (fun g => if (s.group g).record = old then { s.group g with record := 0 } else s.group g) =
        fun g => { s.group g with
          record := if (s.store.create r).2.2 = some (s.group g).record then 0 else (s.group g).record } := by
      funext g
      rw [e]
      by_cases h : (s.group g).record = old
      · simp [h]
      · simp [h, Ne.symm h]
    rw [← hgroups, e]
    rfl
  · next t n e =>
    rw [e]
    have hgroups : (Vector.ofFn fun g => { s.group g with
        record := if (none : Option Half) = some (s.group g).record then 0 else (s.group g).record }) =
        s.gcc.groups := by
      simp [State.group]
    simp only [hgroups]

/-! ### The first tests of a trip (R138, R139) -/

/-- R139, R152: a record with the PENDING outcomes of some groups CLEARED. -/
def TripRecord.clearing (r : TripRecord) (gs : List GroupId) : TripRecord :=
  { r with outcomes := Vector.ofFn fun g =>
      if g ∈ gs ∧ r.outcomes[g] = .pending then .cleared else r.outcomes[g] }

theorem clearing_nil (r : TripRecord) : r.clearing [] = r := by
  simp [TripRecord.clearing]

theorem clearing_outcome (r : TripRecord) (gs : List GroupId) (g : GroupId) :
    (r.clearing gs).outcomes[g] =
      if g ∈ gs ∧ r.outcomes[g] = .pending then .cleared else r.outcomes[g] := by
  simp [TripRecord.clearing]

theorem clearing_append (r : TripRecord) (gs hs : List GroupId) :
    (r.clearing gs).clearing hs = r.clearing (gs ++ hs) := by
  have hout : (fun g : GroupId => if g ∈ hs ∧ (r.clearing gs).outcomes[g] = .pending then GroupOutcome.cleared
      else (r.clearing gs).outcomes[g]) =
      fun g => if g ∈ gs ++ hs ∧ r.outcomes[g] = .pending then .cleared else r.outcomes[g] := by
    funext g
    rw [clearing_outcome]
    by_cases hp : r.outcomes[g] = .pending
    · by_cases hg : g ∈ gs <;> simp [hp, hg]
    · simp only [hp, and_false, if_false]
  rw [TripRecord.clearing, hout]
  rfl

theorem setOutcome_cleared (r : TripRecord) (g : GroupId) : r.setOutcome g .cleared = r.clearing [g] := by
  unfold TripRecord.setOutcome TripRecord.clearing
  split
  · next hp =>
    congr 1
    ext i hi
    by_cases e : i = g.val
    · subst e; simpa using fun h : r.outcomes[g] ≠ .pending => absurd hp h
    · have e' : (⟨i, hi⟩ : GroupId) ≠ g := fun h => e (congrArg Fin.val h)
      simp [Ne.symm e, e']
  · next hp =>
    have hout : (fun y : GroupId => if y ∈ [g] ∧ r.outcomes[y] = .pending then GroupOutcome.cleared
        else r.outcomes[y]) = fun y => r.outcomes[y] := by
      funext y
      by_cases e : y = g
      · subst e; simp only [hp, and_false, if_false]
      · simp [e]
    rw [hout]
    simp

theorem update_update (t : TripStore) (n : Half) {f f' : TripRecord → TripRecord}
    (hf : ∀ r, (f r).number = r.number) : (t.update n f).update n f' = t.update n (f' ∘ f) := by
  simp only [TripStore.update, List.map_map]
  congr 2
  funext r
  by_cases h : r.number = n <;> simp [h, hf]

/-- R138, R139: the state once some groups of record `n` are verified. -/
def State.withVerified (s : State) (gs : List GroupId) (n : Half) : State :=
  { s with
    gcc := { s.gcc with groups := Vector.ofFn fun g =>
      if g ∈ gs then { s.group g with state := .tripped, timer := none } else s.group g },
    store := s.store.update n (·.clearing gs),
    reports := s.reports.offerAll (gs.map fun g => .groupVerified g n) }

theorem withVerified_group (s : State) (gs : List GroupId) (n : Half) (g : GroupId) :
    (s.withVerified gs n).group g =
      if g ∈ gs then { s.group g with state := .tripped, timer := none } else s.group g := by
  simp [State.withVerified, State.group]

theorem withVerified_nil (s : State) (n : Half) : s.withVerified [] n = s := by
  have hgroups : (Vector.ofFn fun g => s.group g) = s.gcc.groups := by simp [State.group]
  simp [State.withVerified, TripStore.update, clearing_nil, hgroups]

theorem withVerified_append (s : State) (gs hs : List GroupId) (n : Half) :
    (s.withVerified gs n).withVerified hs n = s.withVerified (gs ++ hs) n := by
  have hgroups : (fun g => if g ∈ hs then { (s.withVerified gs n).group g with state := .tripped, timer := none }
      else (s.withVerified gs n).group g) =
      fun g => if g ∈ gs ++ hs then { s.group g with state := .tripped, timer := none } else s.group g := by
    funext g
    rw [withVerified_group]
    by_cases hg : g ∈ gs <;> simp [hg]
  have hstore : (s.store.update n (·.clearing gs)).update n (·.clearing hs) =
      s.store.update n (·.clearing (gs ++ hs)) :=
    (update_update s.store n (f := (·.clearing gs)) (f' := (·.clearing hs)) fun _ => rfl).trans
      (congrArg (s.store.update n) (funext fun r => clearing_append r gs hs))
  have hwhole : (s.withVerified gs n).withVerified hs n =
      { s with
        gcc := { s.gcc with groups := Vector.ofFn fun g =>
          if g ∈ hs then { (s.withVerified gs n).group g with state := .tripped, timer := none }
          else (s.withVerified gs n).group g },
        store := (s.store.update n (·.clearing gs)).update n (·.clearing hs),
        reports := (s.reports.offerAll (gs.map fun g => .groupVerified g n)).offerAll
          (hs.map fun g => .groupVerified g n) } := rfl
  rw [hwhole, hgroups, hstore, ← offerAll_append, ← List.map_append]
  rfl

/-- R138: the test of a TRIPPING group, when no held record has number 0. -/
theorem testGroup_eq {s : State} {g : GroupId} {n : Half} (hst : (s.group g).state = .tripping)
    (hn : (s.group g).record = n) (h0 : ∀ r ∈ s.store.records, r.number ≠ 0) :
    testGroup g s = if s.verified g then s.withVerified [g] n else s := by
  have hgroups : s.gcc.groups.set g.val { s.group g with state := .tripped, timer := none } g.isLt =
      Vector.ofFn fun y => if y ∈ [g] then { s.group y with state := .tripped, timer := none } else s.group y := by
    ext1 i hi
    by_cases e : i = g.val
    · subst e; simp
    · have e' : (⟨i, hi⟩ : GroupId) ≠ g := fun h => e (congrArg Fin.val h)
      simp [Ne.symm e, e', State.group]
  have hstore : (if n = 0 then s.store else s.store.setOutcome n g .cleared) =
      s.store.update n (·.clearing [g]) := by
    have hset : s.store.setOutcome n g .cleared = s.store.update n (·.clearing [g]) :=
      congrArg (s.store.update n) (funext fun r => setOutcome_cleared r g)
    split
    · next e =>
      have hid : s.store.records.map (fun r => if r.number = n then r.clearing [g] else r) =
          s.store.records := by
        refine (List.map_congr_left fun r hr => if_neg ?_).trans (List.map_id _)
        exact e ▸ h0 r hr
      rw [TripStore.update, hid]
    · exact hset
  unfold testGroup verifyGroup State.withVerified
  rw [← hgroups, ← hstore]
  subst hn
  simp only [hst, true_and]
  split
  · split <;> rfl
  · rfl

/-- R138: the tests, in ascending order, of groups that are TRIPPING under one record. -/
theorem testList_eq {gs : List GroupId} (hnd : gs.Nodup) {s : State} {n : Half}
    (hgs : ∀ g ∈ gs, (s.group g).state = .tripping ∧ (s.group g).record = n)
    (h0 : ∀ r ∈ s.store.records, r.number ≠ 0) :
    forGroups gs testGroup s = s.withVerified (gs.filter fun g => s.verified g) n := by
  induction gs generalizing s with
  | nil => exact (withVerified_nil s n).symm
  | cons g gs ih =>
    obtain ⟨hg, hnd⟩ := List.nodup_cons.mp hnd
    obtain ⟨hst, hn⟩ := hgs g List.mem_cons_self
    have step : forGroups (g :: gs) testGroup s = forGroups gs testGroup (testGroup g s) := rfl
    rw [step, testGroup_eq hst hn h0]
    cases hv : s.verified g with
    | false =>
      rw [List.filter_cons_of_neg (by simp [hv])]
      exact ih hnd (fun y hy => hgs y (List.mem_cons_of_mem _ hy)) h0
    | true =>
      have hverified : ∀ y, (s.withVerified [g] n).verified y = s.verified y := fun y =>
        verified_congr (by rw [withVerified_group]; split <;> rfl) (fun _ => rfl) rfl rfl
      have hgroups : ∀ y ∈ gs, ((s.withVerified [g] n).group y).state = .tripping ∧
          ((s.withVerified [g] n).group y).record = n := by
        intro y hy
        have hne : y ∉ [g] := fun h => hg (List.mem_singleton.mp h ▸ hy)
        rw [withVerified_group, if_neg hne]
        exact hgs y (List.mem_cons_of_mem _ hy)
      have hstore : ∀ r ∈ (s.withVerified [g] n).store.records, r.number ≠ 0 := by
        intro r hr
        obtain ⟨r', hr', rfl⟩ := List.mem_map.mp hr
        dsimp only
        split
        · exact h0 r' hr'
        · exact h0 r' hr'
      rw [if_pos rfl, ih hnd hgroups hstore, withVerified_append]
      simp only [hverified, List.filter_cons, hv, if_true, List.singleton_append]

end Sys2Proof.Machine
end

section
/-! SUPPORT. A trip as one change of the state (R132 to R134, R138). -/

namespace Sys2Proof.Machine

/-! ### The groups a trip takes (R132) -/

/-- R132: the groups of those named that a trip affects. -/
def State.hitBy (s : State) (named : GroupId → Bool) (g : GroupId) : Bool :=
  named g && decide ((s.group g).state = .closing ∨ (s.group g).state = .closed ∨ (s.group g).state = .opening)

theorem trippable_eq (st : GroupState) :
    st.trippable = decide (st = .closing ∨ st = .closed ∨ st = .opening) := by
  cases st <;> rfl

theorem affected_eq (s : State) (named : GroupId → Bool) : s.affected named = groupSet (s.hitBy named) := by
  simp only [State.affected, trippable_eq]
  rfl

theorem withdrawnOf_zone (s : State) (hit : GroupId → Bool) (r : HaltReason) (z : ZoneId) :
    (s.withdrawnOf hit r).zone z = if hit (s.zone z).cfg.group && (s.zone z).wants then
      { s.zone z with state := .idle, demand := 0, leaseLeft := 0 } else s.zone z := by
  simp [State.withdrawnOf, State.zone]

theorem withdrawnOf_setup (s : State) (hit : GroupId → Bool) (r : HaltReason) (z : ZoneId) :
    (s.withdrawnOf hit r).setup z = s.setup z := by
  have hzone := withdrawnOf_zone s hit r z
  have hsetup : (s.withdrawnOf hit r).setup z =
      (((s.withdrawnOf hit r).zone z).cfg, ((s.withdrawnOf hit r).zone z).configured) := rfl
  rw [hsetup, hzone]
  split <;> rfl

/-- R132, R133 steps 1 to 3: the groups of `hit` TRIPPING under a new record, and GROUP_TRIPPED. -/
def State.madeTripping (s : State) (cause : TripCause) (hit : GroupId → Bool) (ls : List LockedZone) : State :=
  let made := s.store.create (s.recordOf cause hit ls .pending)
  { s with
    gcc := { s.gcc with
      groups := Vector.ofFn fun g =>
        if hit g then
          { s.group g with
            state := .tripping, coil := false, releasePending := false,
            timer := some { kind := .verify, expiry := s.now + s.gcc.verifyWindow * 100 },
            record := made.2.1 }
        else
          { s.group g with record := if made.2.2 = some (s.group g).record then 0 else (s.group g).record } },
    store := made.1,
    reports := s.reports.offer (.groupTripped (groupSet hit) cause made.2.1) }

theorem madeTripping_group (s : State) (cause : TripCause) (hit : GroupId → Bool) (ls : List LockedZone)
    (g : GroupId) : (s.madeTripping cause hit ls).group g =
      if hit g then
        { s.group g with
          state := .tripping, coil := false, releasePending := false,
          timer := some { kind := .verify, expiry := s.now + s.gcc.verifyWindow * 100 },
          record := (s.store.create (s.recordOf cause hit ls .pending)).2.1 }
      else
        { s.group g with
          record := if (s.store.create (s.recordOf cause hit ls .pending)).2.2 = some (s.group g).record then 0
            else (s.group g).record } := by
  simp [State.madeTripping, State.group]

theorem newRecord_tripGroups (s : State) (cause : TripCause) (hit : GroupId → Bool) (ls : List LockedZone) :
    (tripGroups (groupSet hit) s).newRecord cause (groupSet hit) ls .pending =
      s.recordOf cause hit ls .pending := by
  have haux : ∀ g, ((tripGroups (groupSet hit) s).group g).aux = (s.group g).aux := fun g => by
    rw [tripGroups, mapGroups_group]
    split <;> rfl
  simp only [State.newRecord, State.recordOf, haux, inGroups_groupSet, tripGroups_keeps]

theorem makeRecord_group_eq (r : TripRecord) (s : State) (g : GroupId) : (makeRecord r s).1.group g =
    { s.group g with
      record := if (s.store.create r).2.2 = some (s.group g).record then 0 else (s.group g).record } := by
  rw [makeRecord_eq]
  simp [State.group]

theorem setRecords_makeRecord_eq (s : State) (cause : TripCause) (hit : GroupId → Bool) (ls : List LockedZone) :
    submit (.groupTripped (groupSet hit) cause (s.store.create (s.recordOf cause hit ls .pending)).2.1)
      (setRecords (groupSet hit) (s.store.create (s.recordOf cause hit ls .pending)).2.1
        (makeRecord (s.recordOf cause hit ls .pending) (tripGroups (groupSet hit) s)).1) =
      s.madeTripping cause hit ls := by
  have hgroups : ∀ g, (if inGroups (groupSet hit) g then
      { (makeRecord (s.recordOf cause hit ls .pending) (tripGroups (groupSet hit) s)).1.group g with
        record := (s.store.create (s.recordOf cause hit ls .pending)).2.1 }
      else (makeRecord (s.recordOf cause hit ls .pending) (tripGroups (groupSet hit) s)).1.group g) =
      (s.madeTripping cause hit ls).group g := by
    intro g
    rw [makeRecord_group_eq, madeTripping_group, tripGroups, mapGroups_group, inGroups_groupSet]
    cases hit g <;> rfl
  have hmade : s.madeTripping cause hit ls = { s.madeTripping cause hit ls with
      gcc := { s.gcc with groups := Vector.ofFn (s.madeTripping cause hit ls).group } } := by
    rw [funext (madeTripping_group s cause hit ls)]
    rfl
  rw [hmade, setRecords, State.mapGroups]
  simp only [hgroups]
  rw [makeRecord_eq]
  rfl

/-- R132 to R134: a trip that affects some group. -/
theorem trip_eq_of_hit {s : State} {named : GroupId → Bool} (h : ¬ ∀ g, s.hitBy named g = false)
    (cause : TripCause) (ls : List LockedZone) : trip cause named ls s =
      (afterTrip (groupSet (s.hitBy named)) (s.madeTripping cause (s.hitBy named) ls),
        groupSet (s.hitBy named), (s.store.create (s.recordOf cause (s.hitBy named) ls .pending)).2.1) := by
  have hm : groupSet (s.hitBy named) ≠ 0 := mt (groupSet_eq_zero _).mp h
  have hnumber : (makeRecord (s.recordOf cause (s.hitBy named) ls .pending)
      (tripGroups (groupSet (s.hitBy named)) s)).2 =
      (s.store.create (s.recordOf cause (s.hitBy named) ls .pending)).2.1 := by
    rw [makeRecord_eq]
    rfl
  unfold trip
  dsimp only
  rw [affected_eq, if_neg hm, newRecord_tripGroups, hnumber, setRecords_makeRecord_eq]

/-- R133 steps 4 and 5, R138: the withdrawals and the first tests, over a sound store. -/
theorem afterTrip_madeTripping {s : State} (hs : s.storeSound) (cause : TripCause) (hit : GroupId → Bool)
    (ls : List LockedZone) : afterTrip (groupSet hit) (s.madeTripping cause hit ls) =
      ((s.madeTripping cause hit ls).withdrawnOf hit .groupTrip).withVerified
        (allGroups.filter fun g => hit g && s.verified g)
        (s.store.create (s.recordOf cause hit ls .pending)).2.1 := by
  obtain ⟨hlen, -, hrecords, hnext, -, -⟩ := hs
  have hlist : groupList (groupSet hit) = allGroups.filter hit := by simp [groupList]
  let u := (s.madeTripping cause hit ls).withdrawnOf hit .groupTrip
  have hgroup : ∀ g, u.group g = (s.madeTripping cause hit ls).group g := fun g => by
    simp only [u, State.group, withdrawnOf_gcc]
  have hsetup : ∀ z, u.setup z = s.setup z := fun z => withdrawnOf_setup _ hit .groupTrip z
  have hverified : ∀ g, u.verified g = s.verified g := fun g => by
    refine verified_congr ?_ hsetup rfl rfl
    rw [hgroup, madeTripping_group]
    split <;> rfl
  have htests := testList_eq (gs := allGroups.filter hit) (allGroups_nodup.filter _) (s := u)
    (n := (s.store.create (s.recordOf cause hit ls .pending)).2.1) (fun g hg => ?_) ?_
  · rw [afterTrip, hlist, forGroups_withdrawGroup_eq]
    refine htests.trans ?_
    simp only [hverified, List.filter_filter, Bool.and_comm, u]
  · have hhit : hit g = true := (List.mem_filter.mp hg).2
    rw [hgroup, madeTripping_group, if_pos hhit]
    exact ⟨rfl, rfl⟩
  · exact (create_spec hlen hnext (fun r hr => (hrecords r hr).1) _).1

theorem withdrawnOf_with (s : State) (c : Contactors) (t : TripStore) (hit : GroupId → Bool) (r : HaltReason) :
    ({ s with gcc := c, store := t }).withdrawnOf hit r =
      { s.withdrawnOf hit r with gcc := c, store := t } := rfl

theorem withdrawnOf_madeTripping (s : State) (cause : TripCause) (hit : GroupId → Bool) (ls : List LockedZone)
    (r : HaltReason) : (s.madeTripping cause hit ls).withdrawnOf hit r =
      { (submit (.groupTripped (groupSet hit) cause (s.store.create (s.recordOf cause hit ls .pending)).2.1)
          s).withdrawnOf hit r with
        gcc := (s.madeTripping cause hit ls).gcc,
        store := (s.store.create (s.recordOf cause hit ls .pending)).1 } := by
  rw [← withdrawnOf_with]
  rfl

theorem withVerified_with (s : State) (c : Contactors) (t : TripStore) (vs : List GroupId) (n : Half) :
    ({ s with gcc := c, store := t }).withVerified vs n =
      { s with
        gcc := { c with
          groups := Vector.ofFn fun g =>
            if g ∈ vs then { c.groups[g] with state := .tripped, timer := none } else c.groups[g] },
        store := t.update n (·.clearing vs),
        reports := s.reports.offerAll (vs.map fun g => .groupVerified g n) } := rfl

theorem withVerified_withdrawnOf (s : State) (cause : TripCause) (hit : GroupId → Bool) (ls : List LockedZone)
    (r : HaltReason) (vs : List GroupId) (n : Half) :
    ((s.madeTripping cause hit ls).withdrawnOf hit r).withVerified vs n =
      { (submit (.groupTripped (groupSet hit) cause (s.store.create (s.recordOf cause hit ls .pending)).2.1)
          s).withdrawnOf hit r with
        gcc := { s.gcc with
          groups := Vector.ofFn fun g => if g ∈ vs then
              { (s.madeTripping cause hit ls).group g with state := .tripped, timer := none }
            else (s.madeTripping cause hit ls).group g },
        store := (s.store.create (s.recordOf cause hit ls .pending)).1.update n (·.clearing vs),
        reports := ((submit (.groupTripped (groupSet hit) cause
          (s.store.create (s.recordOf cause hit ls .pending)).2.1) s).withdrawnOf hit r).reports.offerAll
            (vs.map fun g => .groupVerified g n) } := by
  rw [withdrawnOf_madeTripping, withVerified_with]
  rfl

/-- R133, R138, R139: a group after a trip's record and first tests. -/
theorem madeTripping_group_verified (s : State) (cause : TripCause) (hit : GroupId → Bool) (ls : List LockedZone)
    (g : GroupId) : (if g ∈ allGroups.filter fun g => hit g && s.verified g then
        { (s.madeTripping cause hit ls).group g with state := .tripped, timer := none }
      else (s.madeTripping cause hit ls).group g) =
      if hit g then
        { s.group g with
          state := if s.verified g then .tripped else .tripping,
          coil := false, releasePending := false,
          timer := if s.verified g then none else
            some { kind := .verify, expiry := s.now + s.gcc.verifyWindow * 100 },
          record := (s.store.create (s.recordOf cause hit ls .pending)).2.1 }
      else
        { s.group g with
          record := if (s.store.create (s.recordOf cause hit ls .pending)).2.2 = some (s.group g).record then 0
            else (s.group g).record } := by
  rw [madeTripping_group]
  cases hg : hit g <;> cases hv : s.verified g <;> simp [hg, hv]

/-- R133, R150, R152: in the store after a trip's record, only the new record has its number, and in it the
groups of the trip are PENDING until they are CLEARED. -/
theorem clearing_made {s : State} (hs : s.storeSound) (cause : TripCause) (hit verified : GroupId → Bool)
    (ls : List LockedZone) :
    let made := s.store.create (s.recordOf cause hit ls .pending)
    made.1.update made.2.1 (·.clearing (allGroups.filter fun g => hit g && verified g)) =
      { made.1 with records := made.1.records.map fun r => if r.number = made.2.1 then
        { r with outcomes := Vector.ofFn fun g => if hit g && verified g then .cleared else r.outcomes[g] }
        else r } := by
  obtain ⟨hlen, -, hrecords, hnext, -, -⟩ := hs
  intro made
  have hnew := (create_spec hlen hnext (fun r hr => (hrecords r hr).1) (s.recordOf cause hit ls .pending)).2
  refine congrArg (fun rs => { made.1 with records := rs }) (List.map_congr_left fun r hr => ?_)
  split
  · next e =>
    have hout : ∀ g, hit g = true → r.outcomes[g] = .pending := fun g hg => by
      rw [hnew r hr e]
      simp [State.recordOf, hg]
    refine congrArg (fun f => { r with outcomes := Vector.ofFn f }) (funext fun g => ?_)
    cases hg : hit g <;> simp [hg, hout]
  · rfl

/-- R132 to R134, R138: over a sound store a trip is one change of the state. -/
theorem trip_eq {s : State} (hs : s.storeSound) (cause : TripCause) (named : GroupId → Bool)
    (ls : List LockedZone) : (trip cause named ls s).1 = s.tripOf cause named ls := by
  by_cases h : ∀ g, s.hitBy named g = false
  · have hm : groupSet (s.hitBy named) = 0 := (groupSet_eq_zero _).mpr h
    have hnone : s.tripOf cause named ls = s := if_pos h
    simp [trip, affected_eq, hm, hnone]
  · refine Eq.trans ?_ (if_neg h).symm
    rw [trip_eq_of_hit h, afterTrip_madeTripping hs, withVerified_withdrawnOf,
      funext (madeTripping_group_verified s cause (s.hitBy named) ls), clearing_made hs]
    rfl

/-- R133: the number a trip answers is the record number of each group it takes. -/
theorem trip_number {s : State} (hs : s.storeSound) (cause : TripCause) {named : GroupId → Bool} {g : GroupId}
    (hg : s.hitBy named g = true) (ls : List LockedZone) :
    (trip cause named ls s).2.2 = ((trip cause named ls s).1.group g).record := by
  have h : ¬ ∀ g, s.hitBy named g = false := fun h => Bool.false_ne_true ((h g).symm.trans hg)
  have hgroup : (((s.madeTripping cause (s.hitBy named) ls).withdrawnOf (s.hitBy named) .groupTrip).group g).record =
      (s.store.create (s.recordOf cause (s.hitBy named) ls .pending)).2.1 := by
    rw [State.group, withdrawnOf_gcc]
    exact (congrArg Group.record (madeTripping_group s cause (s.hitBy named) ls g)).trans
      (congrArg Group.record (if_pos hg))
  rw [trip_eq_of_hit h, afterTrip_madeTripping hs, withVerified_group]
  split <;> exact hgroup.symm

end Sys2Proof.Machine
end

section
/-! SUPPORT. The strikes: what a mismatch at the point does to a zone, its orders and its group (R32 to R35,
R103 to R106, R135). -/

namespace Sys2Proof.Machine

/-! ### A score raised (R105, R106) -/

theorem suspect_eq (z : ZoneId) (k : ScoreKind) (n : Nat) (s : State) : suspect z k n s =
    { s with reports := s.reports.offerAll (if n = 0 then [.zoneSuspect z k 1] else []) } := by
  unfold suspect
  split <;> rfl

/-- R106: the open-load score raised, with ZONE_SUSPECT at 1. -/
def State.openRaised (s : State) (z : ZoneId) : State :=
  { s with
    sup := { s.sup with openScores := s.sup.openScores.set z.val (s.sup.openScores[z] + 1) z.isLt },
    reports := s.reports.offerAll (if s.sup.openScores[z] = 0 then [.zoneSuspect z .openLoad 1] else []) }

/-- R106: the stuck-on score raised, with ZONE_SUSPECT at 1. -/
def State.stuckRaised (s : State) (z : ZoneId) : State :=
  { s with
    sup := { s.sup with stuckScores := s.sup.stuckScores.set z.val (s.sup.stuckScores[z] + 1) z.isLt },
    reports := s.reports.offerAll (if s.sup.stuckScores[z] = 0 then [.zoneSuspect z .stuckOn 1] else []) }

theorem openStrike_eq (z : ZoneId) (s : State) : openStrike z s =
    if s.sup.openScores[z] < (s.zone z).cfg.openLimit then
      if s.sup.openScores[z] + 1 = (s.zone z).cfg.openLimit then openLoadLatch z (s.openRaised z)
      else s.openRaised z
    else s := by
  unfold openStrike
  dsimp only
  rw [suspect_eq]
  rfl

theorem stuckStrike_eq (z : ZoneId) (s : State) : stuckStrike z s =
    if s.sup.stuckScores[z] < (s.zone z).cfg.stuckLimit then
      if s.sup.stuckScores[z] + 1 = (s.zone z).cfg.stuckLimit then stuckOnLatch z (s.stuckRaised z)
      else s.stuckRaised z
    else s := by
  unfold stuckStrike
  dsimp only
  rw [suspect_eq]
  rfl

/-! ### The open-load latch (R32) -/

theorem openLoadLatch_serving {z : ZoneId} {s : State} (h : (s.zone z).state = .idle ∨
    (s.zone z).state = .demand ∨ (s.zone z).state = .dosing) :
    openLoadLatch z s = submit (.zoneFaulted z) (s.takenOut z .faulted .zoneFault) := by
  rw [← leaveService_eq (st := .faulted) (by decide)]
  unfold openLoadLatch
  rcases h with h | h | h <;> rw [h]

theorem openLoadLatch_disabled {z : ZoneId} {s : State} (h : (s.zone z).state = .disabled) :
    openLoadLatch z s = zeroOpenScore z s := by
  unfold openLoadLatch
  rw [h]

theorem openLoadLatch_latched {z : ZoneId} {s : State} (h : (s.zone z).state = .faulted ∨
    (s.zone z).state = .locked) : openLoadLatch z s = s := by
  unfold openLoadLatch
  rcases h with h | h <;> rw [h]

/-! ### The stuck-on latch (R33, R34, R135) -/

theorem stuckOnLatch_locked {z : ZoneId} {s : State} (h : (s.zone z).state = .locked) :
    stuckOnLatch z s = s := if_pos h

theorem stuckOnLatch_eq {z : ZoneId} {s : State} (h : (s.zone z).state ≠ .locked) : stuckOnLatch z s =
    submit (.zoneLocked z (s.zone z).cfg.group (stuckOnTrip z (s.takenOut z .locked .zoneLocked)).2)
      (stuckOnTrip z (s.takenOut z .locked .zoneLocked)).1 := by
  have hgroup : (((stuckOnTrip z (s.takenOut z .locked .zoneLocked)).1).zone z).cfg.group =
      (s.zone z).cfg.group := by
    have hsetup := stuckOnTrip_setup z (s.takenOut z .locked .zoneLocked) z
    have hcfg : (((stuckOnTrip z (s.takenOut z .locked .zoneLocked)).1).zone z).cfg =
        ((s.takenOut z .locked .zoneLocked).zone z).cfg := congrArg Prod.fst hsetup
    rw [hcfg, takenOut_zone, if_pos rfl]
  unfold stuckOnLatch
  rw [if_neg h, leaveService_eq (st := .locked) (by decide)]
  dsimp only
  rw [hgroup]

/-- R135: the zone joins the record of its TRIPPING group, if there is one. -/
theorem stuckOnTrip_tripping {z : ZoneId} {s : State} (h : (s.groupOf z).state = .tripping) :
    stuckOnTrip z s =
      ({ s with
          store := if (s.groupOf z).record = 0 then s.store
            else s.store.addLocked (s.groupOf z).record (s.lockedZone z) },
        (s.groupOf z).record) := by
  rw [State.groupOf] at h ⊢
  unfold stuckOnTrip
  dsimp only
  rw [if_pos h]
  split
  · next e => rw [e]
  · rfl

/-- R135: the trip of the zone's CLOSED group, over a sound store. -/
theorem stuckOnTrip_closed {z : ZoneId} {s : State} (hs : s.storeSound) (h : (s.groupOf z).state = .closed) :
    stuckOnTrip z s = (s.tripOf .zoneStuckOn (fun y => y == (s.zone z).cfg.group) [s.lockedZone z],
      ((s.tripOf .zoneStuckOn (fun y => y == (s.zone z).cfg.group) [s.lockedZone z]).group
        (s.zone z).cfg.group).record) := by
  have hne : (s.group (s.zone z).cfg.group).state ≠ .tripping := by
    have : (s.group (s.zone z).cfg.group).state = .closed := h
    rw [this]
    decide
  have hhit : s.hitBy (fun y => y == (s.zone z).cfg.group) (s.zone z).cfg.group = true := by
    have : (s.group (s.zone z).cfg.group).state = .closed := h
    simp [State.hitBy, this]
  rw [← trip_eq hs, ← trip_number hs _ hhit]
  unfold stuckOnTrip
  dsimp only
  rw [if_neg hne]

/-! ### The checks (R103, R107) -/

theorem check_of_checked {cs : ZoneSet} {s : State} {z : ZoneId}
    (h : (s.zone z).configured = true ∧ (s.groupOf z).state = .closed) : s.check cs z =
      if inZones s.drivenSet z then .openLoad (!inZones cs z) else .stuckOn (inZones cs z) := if_pos h

theorem check_of_not_checked {cs : ZoneSet} {s : State} {z : ZoneId}
    (h : ¬ ((s.zone z).configured = true ∧ (s.groupOf z).state = .closed)) : s.check cs z = .unchecked := if_neg h

theorem conductionChecks_eq (cs : ZoneSet) (s : State) : conductionChecks cs s =
    allZones.foldl (fun t z =>
      if (s.zone z).configured = true ∧ (s.groupOf z).state = .closed then
        if inZones s.drivenSet z then
          if inZones cs z then markOpen z false t else openStrike z (markOpen z true t)
        else
          if inZones cs z then stuckStrike z (markStuck z true t) else markStuck z false t
      else t) s := by
  unfold conductionChecks forZones
  congr 1
  funext t z
  dsimp only
  by_cases hc : (s.zone z).configured = true ∧ (s.groupOf z).state = .closed
  · rw [if_pos hc, check_of_checked hc]
    cases inZones s.drivenSet z <;> cases inZones cs z <;> rfl
  · rw [if_neg hc, check_of_not_checked hc]
    rfl

end Sys2Proof.Machine
end

section
/-! SUPPORT. The point of a half-cycle, zone by zone: what its check does to a zone, and what the checks of the
other zones leave of it (R103 to R107). -/

namespace Sys2Proof.Machine

/-! ### A strike by the score it reaches (R105, R106, R153) -/

/-- R106, R153: what a stuck-on strike does, by the score it reaches and the state of the zone and its group. -/
theorem stuckStrike_cases (z : ZoneId) (s : State) :
    let n := s.sup.stuckScores[z]
    let limit := (s.zone z).cfg.stuckLimit
    let g := (s.zone z).cfg.group
    let added : LockedZone := { zone := z, openScore := s.sup.openScores[z], stuckScore := n + 1 }
    let out := (s.stuckRaised z).takenOut z .locked .zoneLocked
    (limit ≤ n → stuckStrike z s = s) ∧
    (n + 1 < limit → stuckStrike z s = s.stuckRaised z) ∧
    (n + 1 = limit → (s.zone z).state = .locked → stuckStrike z s = s.stuckRaised z) ∧
    (n + 1 = limit → (s.zone z).state ≠ .locked → (s.group g).state = .tripping →
      stuckStrike z s = submit (.zoneLocked z g (s.group g).record) { out with
        store := if (s.group g).record = 0 then s.store else s.store.addLocked (s.group g).record added }) ∧
    (n + 1 = limit → (s.zone z).state ≠ .locked → (s.group g).state = .closed → s.storeSound →
      stuckStrike z s = submit (.zoneLocked z g ((out.tripOf .zoneStuckOn (fun y => y == g) [added]).group g).record)
        (out.tripOf .zoneStuckOn (fun y => y == g) [added])) := by
  intro n limit g added out
  have hzone : out.zone z = { s.zone z with state := .locked, demand := 0, leaseLeft := 0 } := by
    rw [takenOut_zone, if_pos rfl]
    rfl
  have hgroup : out.groupOf z = s.group g := by
    rw [State.groupOf, hzone]
    rfl
  have hadded : out.lockedZone z = added := by
    simp [State.lockedZone, out, State.stuckRaised, added, n]
  have hlatch : n + 1 = limit → stuckStrike z s = stuckOnLatch z (s.stuckRaised z) := fun e => by
    rw [stuckStrike_eq, if_pos (by omega), if_pos e]
  refine ⟨fun h => ?_, fun h => ?_, fun h hl => ?_, fun h hl hg => ?_, fun h hl hg hs => ?_⟩
  · rw [stuckStrike_eq, if_neg (by omega)]
  · rw [stuckStrike_eq, if_pos (by omega), if_neg (by omega)]
  · exact (hlatch h).trans (stuckOnLatch_locked (s := s.stuckRaised z) hl)
  · have htripping : (out.groupOf z).state = .tripping := hgroup ▸ hg
    rw [hlatch h, stuckOnLatch_eq (s := s.stuckRaised z) hl, stuckOnTrip_tripping htripping, hgroup, hadded]
    rfl
  · have hclosed : (out.groupOf z).state = .closed := hgroup ▸ hg
    rw [hlatch h, stuckOnLatch_eq (s := s.stuckRaised z) hl, stuckOnTrip_closed (s := out) hs hclosed, hadded,
      hzone]
    rfl

/-- R105, R106: what an open-load strike does, by the score it reaches and the zone's state. -/
theorem openStrike_cases (z : ZoneId) (s : State) :
    let n := s.sup.openScores[z]
    let limit := (s.zone z).cfg.openLimit
    let v := (s.zone z).state
    (limit ≤ n → openStrike z s = s) ∧
    (n + 1 < limit → openStrike z s = s.openRaised z) ∧
    (n + 1 = limit → (v = .idle ∨ v = .demand ∨ v = .dosing) →
      openStrike z s = submit (.zoneFaulted z) ((s.openRaised z).takenOut z .faulted .zoneFault)) ∧
    (n + 1 = limit → v = .disabled → openStrike z s = { s.openRaised z with
      sup := { s.sup with openScores := s.sup.openScores.set z.val 0 z.isLt } }) ∧
    (n + 1 = limit → (v = .faulted ∨ v = .locked) → openStrike z s = s.openRaised z) := by
  intro n limit v
  have hlatch : n + 1 = limit → openStrike z s = openLoadLatch z (s.openRaised z) := fun e => by
    rw [openStrike_eq, if_pos (by omega), if_pos e]
  refine ⟨fun h => ?_, fun h => ?_, fun h hv => ?_, fun h hv => ?_, fun h hv => ?_⟩
  · rw [openStrike_eq, if_neg (by omega)]
  · rw [openStrike_eq, if_pos (by omega), if_neg (by omega)]
  · exact (hlatch h).trans (openLoadLatch_serving (s := s.openRaised z) hv)
  · refine (hlatch h).trans ((openLoadLatch_disabled (s := s.openRaised z) hv).trans ?_)
    simp [zeroOpenScore, State.openRaised]
  · exact (hlatch h).trans (openLoadLatch_latched (s := s.openRaised z) hv)

/-! ### The scores and marks of one zone -/

/-- What the checks change in supervision for a zone: its two scores and its four frame marks. -/
structure Scoring where
  openScore : Nat
  stuckScore : Nat
  openChecked : Bool
  openFailed : Bool
  stuckChecked : Bool
  stuckFailed : Bool

/-- The scores and marks of a zone as supervision holds them. -/
def Supervision.scoring (u : Supervision) (z : ZoneId) : Scoring :=
  { openScore := u.openScores[z], stuckScore := u.stuckScores[z],
    openChecked := inZones u.openChecked z, openFailed := inZones u.openFailed z,
    stuckChecked := inZones u.stuckChecked z, stuckFailed := inZones u.stuckFailed z }

/-- R32, R105, R106: the open-load score after a mismatch, 0 when it latches a DISABLED zone. -/
def openScoreAfter (c : ZoneConfig) (disabled : Bool) (n : Nat) : Nat :=
  if n < c.openLimit then if n + 1 = c.openLimit ∧ disabled then 0 else n + 1 else n

/-- R105, R106: the stuck-on score after a mismatch. -/
def stuckScoreAfter (c : ZoneConfig) (n : Nat) : Nat := if n < c.stuckLimit then n + 1 else n

/-- R103 to R106: the scores and marks of a zone after its check. -/
def Scoring.checked (k : Scoring) (c : ZoneConfig) (disabled : Bool) : CheckResult → Scoring
  | .unchecked => k
  | .openLoad m => { k with
      openChecked := true, openFailed := k.openFailed || m,
      openScore := if m then openScoreAfter c disabled k.openScore else k.openScore }
  | .stuckOn m => { k with
      stuckChecked := true, stuckFailed := k.stuckFailed || m,
      stuckScore := if m then stuckScoreAfter c k.stuckScore else k.stuckScore }

theorem zeroOpenScore_openRaised_sup (z : ZoneId) (s : State) : (zeroOpenScore z (s.openRaised z)).sup =
    { s.sup with openScores := s.sup.openScores.set z.val 0 z.isLt } := by
  simp [zeroOpenScore, State.openRaised]

theorem openStrike_sup (z : ZoneId) (s : State) : (openStrike z s).sup = { s.sup with
    openScores := s.sup.openScores.set z.val (openScoreAfter (s.zone z).cfg ((s.zone z).state == .disabled)
      s.sup.openScores[z]) z.isLt } := by
  have latched : (openLoadLatch z (s.openRaised z)).sup = if (s.zone z).state = .disabled then
      { s.sup with openScores := s.sup.openScores.set z.val 0 z.isLt } else (s.openRaised z).sup := by
    have hv : ((s.openRaised z).zone z).state = (s.zone z).state := rfl
    cases h : (s.zone z).state with
    | disabled =>
      rw [openLoadLatch_disabled (hv.trans h), if_pos rfl]
      exact zeroOpenScore_openRaised_sup z s
    | idle => rw [openLoadLatch_serving (.inl (hv.trans h))]; rfl
    | demand => rw [openLoadLatch_serving (.inr (.inl (hv.trans h)))]; rfl
    | dosing => rw [openLoadLatch_serving (.inr (.inr (hv.trans h)))]; rfl
    | faulted => rw [openLoadLatch_latched (.inl (hv.trans h))]; rfl
    | locked => rw [openLoadLatch_latched (.inr (hv.trans h))]; rfl
  rw [openStrike_eq, openScoreAfter]
  split
  · split
    · next e =>
      have e' : s.sup.openScores[z.val] + 1 = (s.zone z).cfg.openLimit := e
      rw [latched]
      by_cases h : (s.zone z).state = .disabled <;> simp [h, e', State.openRaised]
    · next e =>
      have e' : s.sup.openScores[z.val] + 1 ≠ (s.zone z).cfg.openLimit := e
      simp [e', State.openRaised]
  · simp

theorem stuckStrike_sup (z : ZoneId) (s : State) : (stuckStrike z s).sup = { s.sup with
    stuckScores := s.sup.stuckScores.set z.val (stuckScoreAfter (s.zone z).cfg s.sup.stuckScores[z]) z.isLt } := by
  rw [stuckStrike_eq, stuckScoreAfter]
  split
  · split <;> simp [State.stuckRaised]
  · simp

theorem applyCheck_scoring_self (z : ZoneId) (c : CheckResult) (s : State) :
    (applyCheck z c s).sup.scoring z =
      (s.sup.scoring z).checked (s.zone z).cfg ((s.zone z).state == .disabled) c := by
  cases c with
  | unchecked => rfl
  | openLoad m =>
    cases m
    · simp [applyCheck, markOpen, Supervision.scoring, Scoring.checked]
    · simp [applyCheck, openStrike_sup, markOpen, Supervision.scoring, Scoring.checked, State.zone]
  | stuckOn m =>
    cases m
    · simp [applyCheck, markStuck, Supervision.scoring, Scoring.checked]
    · simp [applyCheck, stuckStrike_sup, markStuck, Supervision.scoring, Scoring.checked, State.zone]

theorem applyCheck_scoring_other {y z : ZoneId} (h : y ≠ z) (c : CheckResult) (s : State) :
    (applyCheck y c s).sup.scoring z = s.sup.scoring z := by
  have hne : z ≠ y := h.symm
  have hval : y.val ≠ z.val := fun e => h (Fin.ext e)
  cases c with
  | unchecked => rfl
  | openLoad m =>
    cases m
    · simp [applyCheck, markOpen, Supervision.scoring, hne]
    · simp [applyCheck, openStrike_sup, markOpen, Supervision.scoring, hne, hval]
  | stuckOn m =>
    cases m
    · simp [applyCheck, markStuck, Supervision.scoring, hne]
    · simp [applyCheck, stuckStrike_sup, markStuck, Supervision.scoring, hne, hval]

end Sys2Proof.Machine
end

section
/-! SUPPORT. The point of a half-cycle and one zone: its own check, with the checks of the other zones and the
tests of the groups around it (R103 to R107). -/

namespace Sys2Proof.Machine

/-! ### What the other zones' checks leave of a zone -/

/-- The zone's state is what it was, or a zone in DEMAND or DOSING was withdrawn (R30). -/
def State.atMostWithdrawn (t s : State) (z : ZoneId) : Prop :=
  (t.zone z).state = (s.zone z).state ∨ ((s.zone z).wants = true ∧ (t.zone z).state = .idle)

theorem wants_of_idle {v : Zone} (h : v.state = .idle) : v.wants = false := by simp [Zone.wants, h]

theorem wants_congr {v w : Zone} (h : v.state = w.state) : v.wants = w.wants := by simp [Zone.wants, h]

theorem atMostWithdrawn_trans {u t s : State} {z : ZoneId} (h₂ : u.atMostWithdrawn t z)
    (h₁ : t.atMostWithdrawn s z) : u.atMostWithdrawn s z := by
  rcases h₁ with h₁ | ⟨hw, h₁⟩
  · rcases h₂ with h₂ | ⟨hw, h₂⟩
    · exact .inl (h₂.trans h₁)
    · exact .inr ⟨(wants_congr h₁).symm.trans hw, h₂⟩
  · rcases h₂ with h₂ | ⟨hw', -⟩
    · exact .inr ⟨hw, h₂.trans h₁⟩
    · exact absurd ((wants_of_idle h₁).symm.trans hw') Bool.false_ne_true

theorem atMostWithdrawn_of_zones {t s : State} {z : ZoneId} (h : t.zone z = s.zone z) :
    t.atMostWithdrawn s z := .inl (congrArg Zone.state h)

/-- A zone that neither wants to be driven before keeps its state. -/
theorem State.atMostWithdrawn.keeps {t s : State} {z : ZoneId} (h : t.atMostWithdrawn s z) {st : ZoneState}
    (hs : (s.zone z).state = st) (hd : st ≠ .demand) (hdo : st ≠ .dosing) : (t.zone z).state = st := by
  rcases h with h | ⟨hw, -⟩
  · exact h.trans hs
  · subst hs
    simp [Zone.wants, hd, hdo] at hw

theorem withdrawnOf_atMostWithdrawn (s : State) (hit : GroupId → Bool) (r : HaltReason) (z : ZoneId) :
    (s.withdrawnOf hit r).atMostWithdrawn s z := by
  have hzone := withdrawnOf_zone s hit r z
  split at hzone
  · next h =>
    have hw : (s.zone z).wants = true := (Bool.and_eq_true_iff.mp h).2
    exact .inr ⟨hw, by rw [hzone]⟩
  · exact atMostWithdrawn_of_zones hzone

theorem afterTrip_atMostWithdrawn (m : GroupSet) (s : State) (z : ZoneId) :
    (afterTrip m s).atMostWithdrawn s z := by
  have hzones : (afterTrip m s).zones = (s.withdrawnOf (inGroups m) .groupTrip).zones := by
    rw [afterTrip, groupList, forGroups_withdrawGroup_eq]
    simp
  have h := withdrawnOf_atMostWithdrawn s (inGroups m) .groupTrip z
  rwa [State.atMostWithdrawn, State.zone, ← hzones] at h

theorem trip_atMostWithdrawn (cause : TripCause) (named : GroupId → Bool) (ls : List LockedZone) (s : State)
    (z : ZoneId) : (trip cause named ls s).1.atMostWithdrawn s z := by
  unfold trip
  dsimp only
  split
  · exact .inl rfl
  · refine atMostWithdrawn_trans (afterTrip_atMostWithdrawn _ _ z) (atMostWithdrawn_of_zones ?_)
    simp [State.zone]

theorem stuckOnTrip_atMostWithdrawn (y z : ZoneId) (s : State) : (stuckOnTrip y s).1.atMostWithdrawn s z := by
  unfold stuckOnTrip
  dsimp only
  split
  · split <;> exact .inl rfl
  · exact trip_atMostWithdrawn _ _ _ s z

section Other

variable {y z : ZoneId} (h : y ≠ z) (s : State)
include h

theorem takenOut_atMostWithdrawn (st : ZoneState) (r : HaltReason) :
    (s.takenOut y st r).atMostWithdrawn s z :=
  atMostWithdrawn_of_zones (by rw [takenOut_zone, if_neg h.symm])

theorem openLoadLatch_atMostWithdrawn : (openLoadLatch y s).atMostWithdrawn s z := by
  have serving : (submit (.zoneFaulted y) (leaveService y .faulted .zoneFault s).1).atMostWithdrawn s z := by
    rw [leaveService_eq (st := .faulted) (by decide)]
    exact takenOut_atMostWithdrawn h s .faulted .zoneFault
  unfold openLoadLatch
  split
  · exact serving
  · exact serving
  · exact serving
  · exact .inl rfl
  · exact .inl rfl
  · exact .inl rfl

theorem stuckOnLatch_atMostWithdrawn : (stuckOnLatch y s).atMostWithdrawn s z := by
  by_cases hl : (s.zone y).state = .locked
  · rw [stuckOnLatch_locked hl]
    exact .inl rfl
  · rw [stuckOnLatch_eq hl]
    exact atMostWithdrawn_trans (stuckOnTrip_atMostWithdrawn y z _) (takenOut_atMostWithdrawn h s .locked .zoneLocked)

theorem openStrike_atMostWithdrawn : (openStrike y s).atMostWithdrawn s z := by
  rw [openStrike_eq]
  split
  · split
    · exact openLoadLatch_atMostWithdrawn h (s.openRaised y)
    · exact .inl rfl
  · exact .inl rfl

theorem stuckStrike_atMostWithdrawn : (stuckStrike y s).atMostWithdrawn s z := by
  rw [stuckStrike_eq]
  split
  · split
    · exact stuckOnLatch_atMostWithdrawn h (s.stuckRaised y)
    · exact .inl rfl
  · exact .inl rfl

theorem applyCheck_atMostWithdrawn (c : CheckResult) : (applyCheck y c s).atMostWithdrawn s z := by
  unfold applyCheck
  split
  · exact .inl rfl
  · split
    · exact openStrike_atMostWithdrawn h (markOpen y true s)
    · exact .inl rfl
  · split
    · exact stuckStrike_atMostWithdrawn h (markStuck y true s)
    · exact .inl rfl

end Other

/-- What the checks of other zones and the tests of the groups leave of a zone: its configuration, its scores
and marks, its state but for a withdrawal, and a LOCKED zone's group off the supply. -/
structure State.Beside (t s : State) (z : ZoneId) : Prop where
  setup : t.setup z = s.setup z
  scoring : t.sup.scoring z = s.sup.scoring z
  state : t.atMostWithdrawn s z
  offSupply : s.offSupply z → t.offSupply z

theorem Beside.refl (s : State) (z : ZoneId) : s.Beside s z := ⟨rfl, rfl, .inl rfl, id⟩

theorem State.Beside.trans {u t s : State} {z : ZoneId} (h₂ : u.Beside t z) (h₁ : t.Beside s z) : u.Beside s z :=
  ⟨h₂.setup.trans h₁.setup, h₂.scoring.trans h₁.scoring, atMostWithdrawn_trans h₂.state h₁.state,
    fun h => h₂.offSupply (h₁.offSupply h)⟩

theorem applyCheck_beside {y z : ZoneId} (h : y ≠ z) (c : CheckResult) (s : State) :
    (applyCheck y c s).Beside s z where
  setup := (applyCheck_checkFrame (g := 0) z y c (s := s) ⟨rfl, rfl, fun _ => rfl⟩).1
  scoring := applyCheck_scoring_other h c s
  state := applyCheck_atMostWithdrawn h s c
  offSupply := applyCheck_offSupply c

theorem forZones_applyCheck_beside {z : ZoneId} (c : ZoneId → CheckResult) {zs : List ZoneId} (h : z ∉ zs)
    (s : State) : (forZones zs (fun y => applyCheck y (c y)) s).Beside s z := by
  induction zs generalizing s with
  | nil => exact Beside.refl s z
  | cons y zs ih =>
    obtain ⟨hy, hzs⟩ : z ≠ y ∧ z ∉ zs := by simpa using h
    exact (ih hzs (applyCheck y (c y) s)).trans (applyCheck_beside hy.symm (c y) s)

theorem testGroups_beside (s : State) (z : ZoneId) : (testGroups s).Beside s z where
  setup := by simp [State.setup]
  scoring := by simp
  state := atMostWithdrawn_of_zones (by simp [State.zone])
  offSupply := (noNearer_testGroups s).offSupply

/-! ### The check of a zone among the others (R107) -/

theorem conductionChecks_around (cs : ZoneSet) (s : State) (z : ZoneId) :
    ∃ b : State, b.Beside s z ∧ (conductionChecks cs s).Beside (applyCheck z (s.check cs z) b) z := by
  obtain ⟨before, after, hsplit⟩ := List.append_of_mem (mem_allZones z)
  obtain ⟨-, hnd, hdisj⟩ := List.nodup_append.mp (hsplit ▸ allZones_nodup)
  have hbefore : z ∉ before := fun h => hdisj z h z List.mem_cons_self rfl
  have hafter : z ∉ after := (List.nodup_cons.mp hnd).1
  refine ⟨forZones before (fun y => applyCheck y (s.check cs y)) s, forZones_applyCheck_beside _ hbefore s, ?_⟩
  have hfold : conductionChecks cs s = forZones after (fun y => applyCheck y (s.check cs y))
      (applyCheck z (s.check cs z) (forZones before (fun y => applyCheck y (s.check cs y)) s)) := by
    rw [conductionChecks, hsplit, forZones, List.foldl_append]
    rfl
  rw [hfold]
  exact forZones_applyCheck_beside _ hafter _

/-- R138, R103: the tests of the groups change no check. -/
theorem testGroups_check (cs : ZoneSet) (s : State) (z : ZoneId) : (testGroups s).check cs z = s.check cs z := by
  have hzone : (testGroups s).zone z = s.zone z := by simp [State.zone]
  have hdriven : (testGroups s).drivenSet = s.drivenSet := by simp [State.drivenSet]
  have hclosed : ((testGroups s).groupOf z).state = .closed ↔ (s.groupOf z).state = .closed := by
    rw [State.groupOf, State.groupOf, hzone, testGroups_group]
    split
    · next h => simp [h.1]
    · rfl
  simp only [State.check, hzone, hdriven, hclosed]

/-- R102, R107: the point, in either order of the two blocks, around the check of one zone. -/
theorem midPoint_around (cs : ZoneSet) (first : Bool) (s : State) (z : ZoneId) :
    ∃ b : State, b.Beside s z ∧ (midPoint cs first s).Beside (applyCheck z (s.check cs z) b) z := by
  have sampled : (s.sampled cs).Beside s z := ⟨rfl, rfl, .inl rfl, id⟩
  have hcheck : (s.sampled cs).check cs z = s.check cs z := rfl
  rw [midPoint_eq, ← hcheck]
  cases first with
  | true =>
    obtain ⟨b, hb, ht⟩ := conductionChecks_around cs (testGroups (s.sampled cs)) z
    rw [testGroups_check] at ht
    exact ⟨b, (hb.trans (testGroups_beside _ z)).trans sampled, ht⟩
  | false =>
    obtain ⟨b, hb, ht⟩ := conductionChecks_around cs (s.sampled cs) z
    exact ⟨b, hb.trans sampled, (testGroups_beside _ z).trans ht⟩

end Sys2Proof.Machine
end

section
/-! SUPPORT. The point of a half-cycle: the outcome for a zone, and O21 assembled. Settles O21. -/

namespace Sys2Proof.Machine

/-! ### The latches of a zone at its check (R32, R33) -/

/-- R32: a mismatch that brings the open-load score of a zone in service to its limit faults the zone. -/
theorem openStrike_faults {z : ZoneId} {s : State} (hn : s.sup.openScores[z] + 1 = (s.zone z).cfg.openLimit)
    (hv : (s.zone z).state = .idle ∨ (s.zone z).state = .demand ∨ (s.zone z).state = .dosing) :
    ((openStrike z s).zone z).state = .faulted := by
  obtain ⟨-, -, hserving, -, -⟩ := openStrike_cases z s
  rw [hserving hn hv]
  simp [takenOut_zone]

/-- R33: a mismatch that brings the stuck-on score of a zone to its limit locks the zone, and its group is
taken off the supply. -/
theorem stuckStrike_locks {z : ZoneId} {s : State} (hn : s.sup.stuckScores[z] + 1 = (s.zone z).cfg.stuckLimit)
    (hv : (s.zone z).state ≠ .locked) :
    ((stuckStrike z s).zone z).state = .locked ∧ (stuckStrike z s).offSupply z := by
  have hlatch : stuckStrike z s = stuckOnLatch z (s.stuckRaised z) := by
    rw [stuckStrike_eq, if_pos (by omega), if_pos hn]
  have hlocked : (((s.stuckRaised z).takenOut z .locked .zoneLocked).zone z).state = .locked := by
    rw [takenOut_zone, if_pos rfl]
  constructor
  · rw [hlatch, stuckOnLatch_eq (s := s.stuckRaised z) hv]
    exact (stuckOnTrip_atMostWithdrawn z z _).keeps hlocked (by decide) (by decide)
  · rw [hlatch]
    exact stuckOnLatch_offSupply fun h => absurd h hv

/-- R32, R33, R103 to R106: a zone over the point, in either order of the two blocks. -/
theorem midPoint_zone (cs : ZoneSet) (first : Bool) (s : State) (z : ZoneId) :
    (midPoint cs first s).sup.scoring z =
      (s.sup.scoring z).checked (s.zone z).cfg ((s.zone z).state == .disabled) (s.check cs z) ∧
    (s.check cs z = .openLoad true → s.sup.openScores[z] + 1 = (s.zone z).cfg.openLimit →
      ((s.zone z).state = .idle ∨ (s.zone z).state = .demand ∨ (s.zone z).state = .dosing) →
      ((midPoint cs first s).zone z).state = .faulted) ∧
    (s.check cs z = .stuckOn true → s.sup.stuckScores[z] + 1 = (s.zone z).cfg.stuckLimit →
      (s.zone z).state ≠ .locked →
      ((midPoint cs first s).zone z).state = .locked ∧
        ((midPoint cs first s).groupOf z).state.trippable = false) := by
  obtain ⟨b, hb, ht⟩ := midPoint_around cs first s z
  have hcfg : (b.zone z).cfg = (s.zone z).cfg := congrArg Prod.fst hb.setup
  have hopen : b.sup.openScores[z] = s.sup.openScores[z] := congrArg Scoring.openScore hb.scoring
  have hstuck : b.sup.stuckScores[z] = s.sup.stuckScores[z] := congrArg Scoring.stuckScore hb.scoring
  refine ⟨?_, fun hc hn hv => ?_, fun hc hn hv => ?_⟩
  · have hdisabled : ((b.zone z).state == .disabled) = ((s.zone z).state == .disabled) := by
      rcases hb.state with h | ⟨hw, h⟩
      · rw [h]
      · cases hs : (s.zone z).state <;> simp_all [Zone.wants]
    rw [ht.scoring, applyCheck_scoring_self, hb.scoring, hcfg, hdisabled]
  · have hserving : (b.zone z).state = .idle ∨ (b.zone z).state = .demand ∨ (b.zone z).state = .dosing := by
      rcases hb.state with h | ⟨-, h⟩
      · rwa [h]
      · exact .inl h
    rw [hc] at ht
    exact ht.state.keeps (openStrike_faults (s := markOpen z true b)
      (hopen ▸ hcfg ▸ hn) hserving) (by decide) (by decide)
  · have hunlocked : (b.zone z).state ≠ .locked := by
      rcases hb.state with h | ⟨-, h⟩
      · rwa [h]
      · rw [h]; decide
    rw [hc] at ht
    obtain ⟨hlocked, hoff⟩ := stuckStrike_locks (s := markStuck z true b) (hstuck ▸ hcfg ▸ hn) hunlocked
    have hend := ht.state.keeps hlocked (by decide) (by decide)
    exact ⟨hend, ht.offSupply hoff hend⟩

/-! ### The outcome of a check (R103 to R106) -/

theorem check_openLoad_iff {cs : ZoneSet} {s : State} {z : ZoneId} : s.check cs z = .openLoad true ↔
    ((s.zone z).configured = true ∧ (s.groupOf z).state = .closed) ∧ inZones s.drivenSet z = true ∧
      inZones cs z = false := by
  unfold State.check
  split
  · next h => split <;> simp_all
  · next h => simp [h]

theorem check_stuckOn_iff {cs : ZoneSet} {s : State} {z : ZoneId} : s.check cs z = .stuckOn true ↔
    ((s.zone z).configured = true ∧ (s.groupOf z).state = .closed) ∧ inZones s.drivenSet z = false ∧
      inZones cs z = true := by
  unfold State.check
  split
  · next h => split <;> simp_all
  · next h => simp [h]

theorem checked_openScore (k : Scoring) (c : ZoneConfig) (disabled : Bool) (r : CheckResult) :
    (k.checked c disabled r).openScore =
      if r = .openLoad true then openScoreAfter c disabled k.openScore else k.openScore := by
  cases r with
  | unchecked => rfl
  | openLoad m => cases m <;> rfl
  | stuckOn m => rfl

theorem checked_stuckScore (k : Scoring) (c : ZoneConfig) (disabled : Bool) (r : CheckResult) :
    (k.checked c disabled r).stuckScore =
      if r = .stuckOn true then stuckScoreAfter c k.stuckScore else k.stuckScore := by
  cases r with
  | unchecked => rfl
  | openLoad m => rfl
  | stuckOn m => cases m <;> rfl

/-- R104: the frame marks of a zone after its check. -/
theorem checked_marks (k : Scoring) (c : ZoneConfig) (disabled : Bool) (cs : ZoneSet) (s : State) (z : ZoneId) :
    let checked := (s.zone z).configured = true ∧ (s.groupOf z).state = .closed
    (k.checked c disabled (s.check cs z)).openChecked =
      (k.openChecked || decide (checked ∧ inZones s.drivenSet z = true)) ∧
    (k.checked c disabled (s.check cs z)).stuckChecked =
      (k.stuckChecked || decide (checked ∧ inZones s.drivenSet z = false)) ∧
    (k.checked c disabled (s.check cs z)).openFailed =
      (k.openFailed || decide (checked ∧ inZones s.drivenSet z = true ∧ inZones cs z = false)) ∧
    (k.checked c disabled (s.check cs z)).stuckFailed =
      (k.stuckFailed || decide (checked ∧ inZones s.drivenSet z = false ∧ inZones cs z = true)) := by
  intro checked
  by_cases h : checked
  · rw [check_of_checked h]
    cases inZones s.drivenSet z <;> simp [Scoring.checked, h]
  · rw [check_of_not_checked h]
    simp [Scoring.checked, h]

/-- Settles O21: `midPoint_zone` for the outcome of each zone's check, then the point, the checks and the two
strikes as equations. -/
theorem pointRaisesTheScoresOfMismatches : Obligations.PointRaisesTheScoresOfMismatches := by
  refine ⟨fun cs first d s z hs hd => ⟨_, exec_midHalfCyclePoint_of_due cs first hs hd, ?_⟩,
    fun cs first d s hs hd => exec_midHalfCyclePoint_of_due cs first hs hd, conductionChecks_eq,
    openStrike_cases, stuckStrike_cases⟩
  intro checked opn stk openFails stuckFails opens locks
  let t := txChoose (midPoint cs first (s.atTime d))
  have hsup : t.sup = (midPoint cs first (s.atTime d)).sup := by simp [t]
  have hzone : t.zone z = (midPoint cs first (s.atTime d)).zone z := by simp [t, State.zone]
  have hgroup : t.groupOf z = (midPoint cs first (s.atTime d)).groupOf z := by
    simp [State.groupOf, hzone, t, State.group]
  obtain ⟨hscore, hfaults, hlocks⟩ := midPoint_zone cs first (s.atTime d) z
  rw [← hsup] at hscore
  rw [← hzone] at hfaults hlocks
  rw [← hgroup] at hlocks
  obtain ⟨hopenChecked, hstuckChecked, hopenFailed, hstuckFailed⟩ :=
    checked_marks (s.sup.scoring z) (s.zone z).cfg ((s.zone z).state == .disabled) cs s z
  have hopen : t.sup.openScores[z] = if s.check cs z = .openLoad true then
      openScoreAfter (s.zone z).cfg ((s.zone z).state == .disabled) opn else opn :=
    (congrArg Scoring.openScore hscore).trans (checked_openScore _ _ _ _)
  have hstuck : t.sup.stuckScores[z] = if s.check cs z = .stuckOn true then
      stuckScoreAfter (s.zone z).cfg stk else stk :=
    (congrArg Scoring.stuckScore hscore).trans (checked_stuckScore _ _ _ _)
  have hopenFails : openFails ↔ s.check cs z = .openLoad true ∧ opn < (s.zone z).cfg.openLimit := by
    rw [check_openLoad_iff]
    simp only [openFails, checked, and_assoc]
  have hstuckFails : stuckFails ↔ s.check cs z = .stuckOn true ∧ stk < (s.zone z).cfg.stuckLimit := by
    rw [check_stuckOn_iff]
    simp only [stuckFails, checked, and_assoc]
  refine ⟨fun h => ?_, fun h hd => ?_, fun h hd => ?_, fun h => ?_, fun h => ?_, fun h hv => ?_, fun h => ?_,
    (congrArg Scoring.openChecked hscore).trans hopenChecked,
    (congrArg Scoring.stuckChecked hscore).trans hstuckChecked,
    (congrArg Scoring.openFailed hscore).trans hopenFailed,
    (congrArg Scoring.stuckFailed hscore).trans hstuckFailed⟩
  · rw [hopen]
    split
    · next hc => exact if_neg fun hlt => h (hopenFails.mpr ⟨hc, hlt⟩)
    · rfl
  · obtain ⟨hc, hlt⟩ := hopenFails.mp h
    have hnot : ¬ (opn + 1 = (s.zone z).cfg.openLimit ∧ ((s.zone z).state == .disabled) = true) :=
      fun ⟨hn, hv⟩ => hd ⟨⟨h, hn⟩, beq_iff_eq.mp hv⟩
    rw [hopen, if_pos hc, openScoreAfter, if_pos hlt, if_neg hnot]
  · obtain ⟨hfails, hn⟩ := h
    obtain ⟨hc, hlt⟩ := hopenFails.mp hfails
    rw [hopen, if_pos hc, openScoreAfter, if_pos hlt, if_pos ⟨hn, beq_iff_eq.mpr hd⟩]
  · rw [hstuck]
    split
    · next hc => exact if_neg fun hlt => h (hstuckFails.mpr ⟨hc, hlt⟩)
    · rfl
  · obtain ⟨hc, hlt⟩ := hstuckFails.mp h
    rw [hstuck, if_pos hc, stuckScoreAfter, if_pos hlt]
  · obtain ⟨hfails, hn⟩ := h
    exact hfaults (hopenFails.mp hfails).1 hn hv
  · obtain ⟨hfails, hn, hv⟩ := h
    exact hlocks (hstuckFails.mp hfails).1 hn hv

end Sys2Proof.Machine
end

section
/-! SUPPORT. The next handle: the walk of the search from the counter on, and how many handles can be in use.
Settles O32. -/

namespace Sys2Proof.Machine

/-! ### The search for a free handle (R43) -/

/-- R43: the search passes over handles in use only, and within its fuel it stops at one that is not. -/
theorem freeHandle_walk (held : List Half) (fuel : Nat) (h : Half) :
    ∃ k ≤ fuel, freeHandle held fuel h = h + BitVec.ofNat 16 k ∧
      (∀ j < k, h + BitVec.ofNat 16 j ∈ held) ∧ (k < fuel → freeHandle held fuel h ∉ held) := by
  induction fuel generalizing h with
  | zero => exact ⟨0, Nat.le_refl 0, by simp [freeHandle], nofun, nofun⟩
  | succ fuel ih =>
    by_cases hh : h ∈ held
    · obtain ⟨k, hk, hat, hwalk, hfree⟩ := ih (h + 1)
      have step : freeHandle held (fuel + 1) h = freeHandle held fuel (h + 1) := by simp [freeHandle, hh]
      have next : ∀ j, h + 1 + BitVec.ofNat 16 j = h + BitVec.ofNat 16 (j + 1) := fun j => by
        rw [BitVec.ofNat_add, BitVec.add_comm (BitVec.ofNat 16 j), ← BitVec.add_assoc]
        rfl
      refine ⟨k + 1, Nat.succ_le_succ hk, by rw [step, hat, next], fun j hj => ?_, fun hlt => ?_⟩
      · cases j with
        | zero => simpa using hh
        | succ j => exact next j ▸ hwalk j (Nat.lt_of_succ_lt_succ hj)
      · exact step ▸ hfree (Nat.lt_of_succ_lt_succ hlt)
    · have stop : freeHandle held (fuel + 1) h = h := by simp [freeHandle, hh]
      exact ⟨0, Nat.zero_le _, by simp [stop], nofun, fun _ => by rwa [stop]⟩

/-- Successive handles, fewer than the 16-bit values there are, all differ. -/
theorem length_le_of_handles_mem {held : List Half} {h : Half} {k : Nat} (hk : k ≤ 65536)
    (hwalk : ∀ j < k, h + BitVec.ofNat 16 j ∈ held) : k ≤ held.length := by
  have hnodup : ((List.range k).map fun j => h + BitVec.ofNat 16 j).Nodup := by
    refine List.Nodup.map_on (fun a ha b hb e => ?_) List.nodup_range
    have he := congrArg BitVec.toNat ((BitVec.add_right_inj h).mp e)
    rw [List.mem_range] at ha hb
    rw [BitVec.toNat_ofNat, BitVec.toNat_ofNat] at he
    omega
  have hsub : ((List.range k).map fun j => h + BitVec.ofNat 16 j) ⊆ held := by
    intro m hm
    obtain ⟨j, hj, rfl⟩ := List.mem_map.mp hm
    exact hwalk j (List.mem_range.mp hj)
  simpa using (hnodup.subperm hsub).length_le

/-! ### The handles in use -/

theorem mem_sourcesOf {o : Option Plan} {h : Half} :
    h ∈ sourcesOf o ↔ ∃ p, o = some p ∧ ∃ z : ZoneId, (p.entries[z]).source = .order h := by
  cases o with
  | none => simp [sourcesOf]
  | some p =>
    constructor
    · intro hh
      obtain ⟨e, he, hs⟩ := List.mem_filterMap.mp hh
      obtain ⟨i, hi, rfl⟩ := Vector.mem_iff_getElem.mp (Vector.mem_toList_iff.mp he)
      refine ⟨p, rfl, ⟨i, hi⟩, ?_⟩
      split at hs
      · next hsource => cases hs; exact hsource
      · cases hs
    · rintro ⟨q, hq, z, hs⟩
      cases hq
      exact List.mem_filterMap.mpr ⟨p.entries[z], Vector.mem_toList_iff.mpr (Vector.getElem_mem z.isLt), by rw [hs]⟩

/-- Log entry 12: a handle in use is one of a held order, or a source of either held plan. -/
theorem mem_heldHandles {s : State} {h : Half} : h ∈ s.heldHandles ↔
    (∃ z, ∃ o ∈ s.queue z, o.handle = h) ∨
      ∃ p, (s.planner.committed = some p ∨ s.planner.building = some p) ∧
        ∃ z : ZoneId, (p.entries[z]).source = .order h := by
  rw [State.heldHandles, queues_toList]
  simp only [List.mem_append, List.mem_flatMap, List.mem_map, mem_allZones, true_and, mem_sourcesOf,
    exists_exists_eq_and, or_and_right, exists_or, or_assoc]

theorem sourcesOf_length_le (o : Option Plan) : (sourcesOf o).length ≤ 24 := by
  cases o with
  | none => exact Nat.zero_le _
  | some p => simpa [sourcesOf, Plan.sources] using List.length_filterMap_le (l := p.entries.toList) _

/-- R42, R43: 24 queues of at most four orders and two plans of 24 sources. -/
theorem heldHandles_length_le {s : State} (hq : ∀ z, (s.queue z).length ≤ 4) : s.heldHandles.length ≤ 144 := by
  have hqueues : (s.orders.queues.toList.flatMap fun q => q.map (·.handle)).length ≤ 24 * 4 := by
    rw [queues_toList, List.flatMap_map, List.length_flatMap]
    refine (List.sum_le_card_nsmul _ 4 fun n hn => ?_).trans_eq ?_
    · obtain ⟨z, -, rfl⟩ := List.mem_map.mp hn
      simpa using hq z
    · simp [allZones]
  have hcommitted := sourcesOf_length_le s.planner.committed
  have hbuilding := sourcesOf_length_le s.planner.building
  rw [State.heldHandles, List.length_append, List.length_append]
  omega

/-- Settles O32: of 145 successive handles one is not in use, so the search of `freeHandle_walk` ends at one
that is not. -/
theorem nextHandleIsTheFirstFreeOne : Obligations.NextHandleIsTheFirstFreeOne := by
  intro s hq inUse
  have hmem : ∀ h, h ∈ s.heldHandles ↔ inUse h := fun h => mem_heldHandles
  obtain ⟨k, hk, hat, hwalk, hfree⟩ := freeHandle_walk s.heldHandles 145 s.orders.counter
  have hk' : k ≤ 144 := (length_le_of_handles_mem (by omega) hwalk).trans (heldHandles_length_le hq)
  exact ⟨fun h => hfree (by omega) ((hmem _).mpr h), k, hk', hat, fun j hj => (hmem _).mp (hwalk j hj)⟩

end Sys2Proof.Machine
end

section
/-! SUPPORT. STOP, TRIP_ALL and a dropout: each is one trip of its groups, on the state in which it comes.
Settles O39. -/

namespace Sys2Proof.Machine

/-- The store and what the groups show of it decide whether the store is sound. -/
theorem storeSound_congr {s t : State} (ht : t.store = s.store)
    (hg : ∀ g, (t.group g).record = (s.group g).record ∧ (t.group g).state = (s.group g).state)
    (hs : s.storeSound) : t.storeSound := by
  obtain ⟨hlen, hnodup, hrecords, hnext, hlost, hheld⟩ := hs
  refine ⟨ht ▸ hlen, ht ▸ hnodup, ht ▸ hrecords, ht ▸ hnext, ht ▸ hlost, fun g hr => ?_⟩
  obtain ⟨hrec, hst⟩ := hg g
  rw [hrec] at hr
  rw [hrec, hst, ht]
  exact hheld g hr

/-- R123, R137: STOP becomes asserted. -/
theorem stopChange_of_asserted {s : State} {since : Nat} (hs : s.storeSound)
    (h : s.gcc.rawStopSince = some since) (hstop : s.gcc.stop = false) : stopChange s = State.tripOf { s with
      now := max s.now (since + 400),
      gcc := { s.gcc with stop := true, rawStopSince := none } } .externalStop (fun _ => true) [] := by
  unfold stopChange
  simp only [h, hstop, atTime_keeps, Bool.not_false, if_true]
  refine trip_eq ?_ .externalStop (fun _ => true) []
  exact storeSound_congr rfl (fun _ => ⟨rfl, rfl⟩) hs

/-- R123, R130: the aux of a CLOSED group shows open. -/
theorem auxChange_of_dropout {s : State} {g : GroupId} {since : Nat} (hs : s.storeSound)
    (h : (s.group g).rawAuxSince = some since) (hst : (s.group g).state = .closed) (ha : (s.group g).aux = true) :
    auxChange g s = ((s.atTime (since + 400)).setGroup g
      { s.group g with aux := false, rawAuxSince := none }).tripOf .dropout (fun y => y == g) [] := by
  unfold auxChange auxHandled
  simp only [h, ha, hst, atTime_keeps, setGroup_group_self, Bool.not_true, Bool.false_eq_true, if_false]
  refine trip_eq (storeSound_congr (s := s) (by simp) (fun y => ?_) hs) .dropout (fun y => y == g) []
  rw [setGroup_group]
  split
  · next e => subst e; exact ⟨rfl, hst.symm⟩
  · exact ⟨rfl, rfl⟩

/-- R136: TRIP_ALL trips every group, and answers with their number. -/
theorem answerTripAll_eq {s : State} (hs : s.storeSound) : answerTripAll s =
    (s.tripOf .host (fun _ => true) []).grant
      [BitVec.ofNat 8 (allGroups.countP fun g => s.hitBy (fun _ => true) g)] := by
  have hcount : (groupList (tripEvery .host s).2.1).length =
      allGroups.countP fun g => s.hitBy (fun _ => true) g := by
    have hset : (tripEvery .host s).2.1 = groupSet (s.hitBy fun _ => true) := by
      by_cases h : ∀ g, s.hitBy (fun _ => true) g = false
      · have hm : groupSet (s.hitBy fun _ => true) = 0 := (groupSet_eq_zero _).mpr h
        simp [tripEvery, trip, affected_eq, hm]
      · rw [tripEvery, trip_eq_of_hit h]
    rw [hset, List.countP_eq_length_filter]
    simp only [groupList, inGroups_groupSet]
  unfold answerTripAll
  dsimp only
  rw [hcount, tripEvery, trip_eq hs]
  rfl

/-- Settles O39: each command is a trip over a sound store, and `trip_eq` says what a trip does. -/
theorem stopTripAllAndDropoutTripTheGroups : Obligations.StopTripAllAndDropoutTripTheGroups := by
  refine ⟨fun since s hs h hstop => ?_, fun hd s hs h => ?_, fun g since s hs h hst ha => ?_⟩
  · have hexec : exec .stopChange s = .next (txChoose (stopChange s)) := by simp [exec, execStopChange, h]
    rw [hexec, stopChange_of_asserted hs h hstop]
  · have hs1 : (s.received hd).storeSound := storeSound_congr (by simp) (by simp) hs
    refine exec_of_answer rfl rfl h rfl ((answerTripAll_eq hs1).trans ?_) nofun
    simp only [State.hitBy, Bool.true_and, received_views]
    rfl
  · have hexec : exec (.auxChange g) s = .next (txChoose (auxChange g s)) := by simp [exec, execAuxChange, h]
    rw [hexec, auxChange_of_dropout hs h hst ha]

end Sys2Proof.Machine
end

section
/-! SUPPORT. The order unit at a crossing: one zone's claim and confirmations as one write of its record and
queue, and those of all zones (R46 to R49, R53, R97). Settles O27. -/

namespace Sys2Proof.Machine

/-! ### Writing a zone's record and queue with reports -/

/-- A zone's record and queue are written, and reports are submitted. -/
def State.setCell (s : State) (z : ZoneId) (v : Zone) (q : List Order) (rs : List Report) : State :=
  { (s.setZone z v).setQueue z q with reports := s.reports.offerAll rs }

theorem setCell_zone (s : State) (z y : ZoneId) (v : Zone) (q : List Order) (rs : List Report) :
    (s.setCell z v q rs).zone y = if y = z then v else s.zone y := setZone_zone s z y v

theorem setCell_queue (s : State) (z y : ZoneId) (v : Zone) (q : List Order) (rs : List Report) :
    (s.setCell z v q rs).queue y = if y = z then q else s.queue y := setQueue_queue s z y q

theorem setCell_setCell (s : State) (z : ZoneId) (v w : Zone) (q q' : List Order) (rs rs' : List Report) :
    (s.setCell z v q rs).setCell z w q' rs' = s.setCell z w q' (rs ++ rs') := by
  simp [State.setCell, State.setZone, State.setQueue]

/-- A list of zones, each written from its own record and queue, is one write of the table and the queues, and
one run of reports. -/
theorem forZones_setCell (f : ZoneId → Zone → List Order → Zone) (g : ZoneId → List Order → List Order)
    (r : ZoneId → List Order → List Report) {zs : List ZoneId} (hzs : zs.Nodup) (s : State) :
    forZones zs (fun z u => u.setCell z (f z (u.zone z) (u.queue z)) (g z (u.queue z)) (r z (u.queue z))) s =
      { s with
        zones := Vector.ofFn fun z => if z ∈ zs then f z (s.zone z) (s.queue z) else s.zone z,
        orders := { s.orders with
          queues := Vector.ofFn fun z => if z ∈ zs then g z (s.queue z) else s.queue z },
        reports := s.reports.offerAll (zs.flatMap fun z => r z (s.queue z)) } := by
  induction zs generalizing s with
  | nil =>
    have hz : s.zones = Vector.ofFn fun z => s.zone z := by ext i hi; simp [State.zone]
    have hq : s.orders.queues = Vector.ofFn fun z => s.queue z := by ext i hi; simp [State.queue]
    simp [forZones, ← hz, ← hq]
  | cons z zs ih =>
    obtain ⟨hz, hzs⟩ := List.nodup_cons.mp hzs
    let s' := s.setCell z (f z (s.zone z) (s.queue z)) (g z (s.queue z)) (r z (s.queue z))
    have hzone : ∀ y, s'.zone y = if y = z then f z (s.zone z) (s.queue z) else s.zone y :=
      fun y => setCell_zone s z y _ _ _
    have hqueue : ∀ y, s'.queue y = if y = z then g z (s.queue z) else s.queue y :=
      fun y => setCell_queue s z y _ _ _
    have hlater : (zs.flatMap fun y => r y (s'.queue y)) = zs.flatMap fun y => r y (s.queue y) :=
      List.flatMap_congr fun y hy => by rw [hqueue, if_neg fun e : y = z => hz (e ▸ hy)]
    have hzones : (fun y => if y ∈ zs then f y (s'.zone y) (s'.queue y) else s'.zone y) =
        fun y => if y ∈ z :: zs then f y (s.zone y) (s.queue y) else s.zone y := by
      funext y
      simp only [hzone, hqueue, List.mem_cons]
      by_cases e : y = z
      · subst e; simp [hz]
      · simp [e]
    have hqueues : (fun y => if y ∈ zs then g y (s'.queue y) else s'.queue y) =
        fun y => if y ∈ z :: zs then g y (s.queue y) else s.queue y := by
      funext y
      simp only [hqueue, List.mem_cons]
      by_cases e : y = z
      · subst e; simp [hz]
      · simp [e]
    refine (ih hzs s').trans ?_
    rw [hzones, hqueues, hlater, List.flatMap_cons, offerAll_append]
    rfl

/-! ### Claims and confirmations of one zone -/

/-- R28: the record of a zone whose queue goes from `q` to `q'`. -/
def Zone.shrunk (v : Zone) (q q' : List Order) : Zone :=
  if q = [] then v else v.leftWith q'

theorem shrunk_shrunk (v : Zone) {q q' q'' : List Order} (h : q = [] → q' = []) (h' : q' = [] → q'' = []) :
    (v.shrunk q q').shrunk q' q'' = v.shrunk q q'' := by
  unfold Zone.shrunk Zone.leftWith
  by_cases e : q' = []
  · simp [e, h' e]
  · simp [e, mt h e]

theorem shrinkQueue_eq_setCell (s : State) (z : ZoneId) (q : List Order) :
    s.shrinkQueue z q = s.setCell z ((s.zone z).shrunk (s.queue z) q) q [] := by
  unfold Zone.shrunk
  split
  · next e =>
    have hset : s.shrinkQueue z q = s.setQueue z q := by simp [State.shrinkQueue, e]
    rw [hset, State.setCell, setZone_self]
    rfl
  · next e => exact shrinkQueue_eq e q

/-- R47, R49: a queue after the fired claim of its head. -/
def firedQueue : List Order → List Order
  | [] => []
  | o :: os => if o.fire.remaining = 0 then os else o.fire :: os

/-- R47, R49: the reports of a fired claim in the frame `n`. -/
def fireReports (z : ZoneId) (n : BitVec 32) : List Order → List Report
  | [] => []
  | o :: _ => (if o.state = .planned then [.orderStarted z o.tag n] else []) ++
      if o.fire.remaining = 0 then [.orderDone z o.tag o.total] else []

theorem fireHead_eq (z : ZoneId) (n : BitVec 32) (s : State) : fireHead z n s =
    s.setCell z ((s.zone z).shrunk (s.queue z) (firedQueue (s.queue z))) (firedQueue (s.queue z))
      (fireReports z n (s.queue z)) := by
  unfold fireHead
  cases hq : s.queue z with
  | nil =>
    have hself := setQueue_self s z
    rw [hq] at hself
    rw [Zone.shrunk, if_pos rfl, State.setCell, setZone_self]
    exact hself.symm
  | cons o os =>
    have started : (if o.state = .planned then submit (.orderStarted z o.tag n) s else s) =
        { s with reports := s.reports.offerAll (if o.state = .planned then [.orderStarted z o.tag n] else []) } := by
      split <;> rfl
    simp only [started, fireReports, firedQueue]
    split
    · rw [shrinkQueue_eq_setCell]
      simp only [submit_keeps, State.setCell, offerAll_append]
      rw [← hq]
      rfl
    · have hkeep : (s.zone z).shrunk (o :: os) (o.fire :: os) = s.zone z := by simp [Zone.shrunk, Zone.leftWith]
      rw [hkeep, State.setCell, setZone_self, List.append_nil]
      rfl

/-- R53: the report that confirms an order. -/
def confirmReport (z : ZoneId) (o : Order) : List Report :=
  match o.state with
  | .halting why => [.orderHalted z o.tag why o.fired o.remaining]
  | _ => []

theorem confirmReports_eq (z : ZoneId) (os : List Order) (s : State) : confirmReports z os s =
    { s with reports := s.reports.offerAll (os.flatMap (confirmReport z)) } := by
  induction os generalizing s with
  | nil => rfl
  | cons o os ih =>
    have step : confirmReports z (o :: os) s =
        confirmReports z os { s with reports := s.reports.offerAll (confirmReport z o) } := by
      rw [confirmReports, confirmReport]
      cases o.state <;> rfl
    rw [step, ih, List.flatMap_cons, offerAll_append]

theorem confirmHalts_eq (z : ZoneId) (s : State) : confirmHalts z s =
    s.setCell z ((s.zone z).shrunk (s.queue z) ((s.queue z).filter fun o => !o.isHalting))
      ((s.queue z).filter fun o => !o.isHalting) ((s.queue z).flatMap (confirmReport z)) := by
  rw [confirmHalts, confirmReports_eq, shrinkQueue_eq_setCell]
  rfl

/-- R47, R97: a queue after its claim, if its zone is driven. -/
def claimedQueue (driven : Bool) (q : List Order) : List Order := if driven then firedQueue q else q

/-- R47, R53: a queue after its claim and its confirmations. -/
def accountedQueue (driven : Bool) (q : List Order) : List Order :=
  (claimedQueue driven q).filter fun o => !o.isHalting

/-- R47, R49, R53: the reports of a zone's claim and its confirmations. -/
def accountReports (n : BitVec 32) (driven : Bool) (z : ZoneId) (q : List Order) : List Report :=
  (if driven then fireReports z n q else []) ++ (claimedQueue driven q).flatMap (confirmReport z)

theorem accountedQueue_nil (driven : Bool) : accountedQueue driven [] = [] := by cases driven <;> rfl

theorem accountReports_nil (n : BitVec 32) (driven : Bool) (z : ZoneId) : accountReports n driven z [] = [] := by
  cases driven <;> rfl

theorem accountZone_eq (n : BitVec 32) (dose : ZoneId → Bool) (z : ZoneId) (s : State) : accountZone n dose z s =
    s.setCell z ((s.zone z).shrunk (s.queue z) (accountedQueue (dose z) (s.queue z)))
      (accountedQueue (dose z) (s.queue z)) (accountReports n (dose z) z (s.queue z)) := by
  unfold accountZone accountedQueue accountReports claimedQueue
  cases dose z with
  | false => simp only [confirmHalts_eq, Bool.false_eq_true, if_false, List.nil_append]
  | true =>
    simp only [fireHead_eq, confirmHalts_eq, setCell_zone, setCell_queue, setCell_setCell, if_true]
    rw [shrunk_shrunk]
    · intro e; rw [e]; rfl
    · intro e; rw [e]; rfl

/-! ### All zones at a crossing -/

/-- R46, R53, R97: the switch stage and the order unit at a crossing. -/
theorem switchAtCrossing_eq (frame : BitVec 32) (len h : Nat) (syn : Bool) (s : State) :
    switchAtCrossing frame len h syn s = { s with
      switch := (driveLines frame h syn (zoneSet (s.drives frame len h)) s).switch,
      zones := Vector.ofFn fun z =>
        (s.zone z).shrunk (s.queue z) (accountedQueue (s.drivesDose frame len h z) (s.queue z)),
      orders := { s.orders with
        queues := Vector.ofFn fun z => accountedQueue (s.drivesDose frame len h z) (s.queue z) },
      reports := s.reports.offerAll
        (allZones.flatMap fun z => accountReports frame (s.drivesDose frame len h z) z (s.queue z)) } := by
  have hcells : accountZone frame (s.drivesDose frame len h) = fun z u =>
      u.setCell z ((u.zone z).shrunk (u.queue z) (accountedQueue (s.drivesDose frame len h z) (u.queue z)))
        (accountedQueue (s.drivesDose frame len h z) (u.queue z))
        (accountReports frame (s.drivesDose frame len h z) z (u.queue z)) := by
    funext z u
    exact accountZone_eq frame _ z u
  rw [switchAtCrossing, hcells, forZones_setCell
    (fun z v q => v.shrunk q (accountedQueue (s.drivesDose frame len h z) q))
    (fun z q => accountedQueue (s.drivesDose frame len h z) q)
    (fun z q => accountReports frame (s.drivesDose frame len h z) z q) allZones_nodup]
  simp only [mem_allZones, if_true, driveLines_keeps]

/-! ### A sound queue (R42) -/

/-- R42: only the head of a queue can be HALTING. -/
theorem queueSound.tail_not_halting {o : Order} {os : List Order} (h : queueSound (o :: os)) :
    ∀ x ∈ os, x.isHalting = false := by
  obtain ⟨-, -, -, htail⟩ := h
  intro x hx
  rcases htail x hx with e | e <;> simp [Order.isHalting, e]

theorem confirmReport_of_not_halting (z : ZoneId) {o : Order} (h : o.isHalting = false) :
    confirmReport z o = [] := by
  unfold confirmReport
  cases ho : o.state with
  | halting why => simp [Order.isHalting, ho] at h
  | _ => rfl

section Sound

variable {o : Order} {os : List Order} (h : queueSound (o :: os)) (driven : Bool)

include h

/-- R41: a claim leaves nothing to fire exactly when one half-cycle remained. -/
theorem queueSound.fire_remaining : o.fire.remaining = 0 ↔ o.remaining = 1 := by
  obtain ⟨-, -, horders, -⟩ := h
  obtain ⟨-, -, hpos, -⟩ := horders o List.mem_cons_self
  simp only [Order.fire]
  omega

theorem queueSound.accountedQueue_eq : accountedQueue driven (o :: os) =
    if driven then if o.remaining = 1 then os else o.fire :: os
    else if o.isHalting then os else o :: os := by
  have htail : os.filter (fun x => !x.isHalting) = os :=
    List.filter_eq_self.mpr fun x hx => by simp [h.tail_not_halting x hx]
  unfold accountedQueue claimedQueue
  cases driven with
  | false => cases ho : o.isHalting <;> simp [ho, htail]
  | true =>
    simp only [firedQueue, h.fire_remaining, if_true]
    split
    · exact htail
    · exact (List.filter_cons_of_pos rfl).trans (congrArg _ htail)

theorem queueSound.accountReports_eq (n : BitVec 32) (z : ZoneId) : accountReports n driven z (o :: os) =
    if driven then
      (if o.state = .planned then [.orderStarted z o.tag n] else []) ++
        if o.remaining = 1 then [.orderDone z o.tag o.total] else []
    else confirmReport z o := by
  have htail : os.flatMap (confirmReport z) = [] :=
    List.flatMap_eq_nil_iff.mpr fun x hx => confirmReport_of_not_halting z (h.tail_not_halting x hx)
  unfold accountReports claimedQueue
  cases driven with
  | false => simp [htail]
  | true =>
    have hclaimed : (firedQueue (o :: os)).flatMap (confirmReport z) = [] := by
      rw [firedQueue]
      split
      · exact htail
      · exact htail
    simp only [if_true, hclaimed, List.append_nil, fireReports, h.fire_remaining]

end Sound

/-- Settles O27: `switchAtCrossing_eq`, with each sound queue read by its head. -/
theorem crossingCountsClaimsAndConfirmsHalts : Obligations.CrossingCountsClaimsAndConfirmsHalts := by
  intro c s hq
  have hcross : takeCrossing c .switchStage s = _ := switchAtCrossing_eq c.frame c.len c.h c.synthetic s
  have hqueue : ∀ z, (takeCrossing c .switchStage s).queue z =
      accountedQueue (s.drivesDose c.frame c.len c.h z) (s.queue z) := fun z => by
    rw [hcross]; simp [State.queue]
  constructor
  · intro driven z
    have hz := hq z
    constructor
    · rw [hqueue]
      cases he : s.queue z with
      | nil => exact accountedQueue_nil _
      | cons o os =>
        rw [he] at hz
        exact hz.accountedQueue_eq _
    · rw [hqueue, hcross]
      have hzone : ∀ q', (s.zone z).shrunk (s.queue z) q' =
          if (s.zone z).state = .dosing ∧ s.queue z ≠ [] ∧ q' = [] then { s.zone z with state := .idle }
          else s.zone z := fun q' => by
        unfold Zone.shrunk Zone.leftWith
        by_cases he : s.queue z = []
        · simp [he]
        · simp [he, and_comm]
      rw [← hzone]
      simp [State.zone]
  · rw [hcross]
    refine congrArg s.reports.offerAll (List.flatMap_congr fun z _ => ?_)
    have hz := hq z
    cases he : s.queue z with
    | nil => exact accountReports_nil _ _ z
    | cons o os =>
      rw [he] at hz
      rw [hz.accountReports_eq]
      rfl

end Sys2Proof.Machine
end

section
/-! SUPPORT. The planner at a frame boundary: the plan it commits, the cut, and each as one change of the state;
and the switch stage beside it, in either order. Settles O28. -/

namespace Sys2Proof.Machine

/-! ### Reading a plan (R64) -/

theorem stands_iff (e : Entry) (v : ZoneConfig) : e.stands v = true ↔ e.current = v.current ∧ e.group = v.group := by
  simp [Entry.stands]

theorem readEntry_some (s : State) (p : Plan) (z : ZoneId) : s.readEntry (some p) z =
    if (p.entries[z]).current = (s.zone z).cfg.current ∧ (p.entries[z]).group = (s.zone z).cfg.group then
      p.entries[z] else .empty (s.zone z).cfg := by
  simp only [State.readEntry, stands_iff]

theorem planIfFor_eq_some_iff {o : Option Plan} {frame : BitVec 32} {len : Nat} {p : Plan} :
    planIfFor o frame len = some p ↔ o = some p ∧ p.frame = frame ∧ p.len = len := by
  simp [planIfFor, Plan.isFor, Option.filter_eq_some_iff]

theorem planIfFor_eq_none_iff {o : Option Plan} {frame : BitVec 32} {len : Nat} :
    planIfFor o frame len = none ↔ ∀ p, o = some p → ¬ (p.frame = frame ∧ p.len = len) := by
  simp [planIfFor, Plan.isFor, Option.filter_eq_none_iff]

/-- R64: an empty plan reads as no plan at all. -/
theorem readEntry_emptyPlan (s : State) (frame : BitVec 32) (len : Nat) (z : ZoneId) :
    s.readEntry (some (s.emptyPlan frame len)) z = s.readEntry none z := by
  have hentry : (s.emptyPlan frame len).entries[z] = Entry.empty (s.zone z).cfg := by simp [State.emptyPlan]
  simp only [State.readEntry, hentry, ite_self]

/-- R64: only a held plan names an order as a zone's source. -/
theorem source_of_readEntry {s : State} {o : Option Plan} {z : ZoneId} {h : Half}
    (hs : (s.readEntry o z).source = .order h) : ∃ p, o = some p ∧ (p.entries[z]).source = .order h := by
  cases o with
  | none => cases hs
  | some p =>
    unfold State.readEntry at hs
    dsimp only at hs
    split at hs
    · exact ⟨p, rfl, hs⟩
    · cases hs

/-! ### The commit (R65, R68, R83, R84) -/

theorem committedAt_of_none {s : State} {frame : BitVec 32} {len : Nat} {discard : Bool}
    (h : discard = true ∨ planIfFor s.planner.building frame len = none) :
    s.committedAt frame len discard = s.emptyPlan frame len := by
  unfold State.committedAt
  rcases h with h | h <;> simp [h]

theorem committedAt_of_some {s : State} {frame : BitVec 32} {len : Nat} {p : Plan}
    (h : planIfFor s.planner.building frame len = some p) : s.committedAt frame len false = p := by
  simp [State.committedAt, h]

/-- R65: the committed plan is built for the frame that the boundary begins, or is empty. -/
theorem committedAt_cases (s : State) (frame : BitVec 32) (len : Nat) (discard : Bool) :
    s.committedAt frame len discard = s.emptyPlan frame len ∨
      discard = false ∧ planIfFor s.planner.building frame len = some (s.committedAt frame len discard) := by
  cases discard with
  | true => exact .inl (committedAt_of_none (.inl rfl))
  | false =>
    cases h : planIfFor s.planner.building frame len with
    | none => exact .inl (committedAt_of_none (.inr h))
    | some p => exact .inr ⟨rfl, congrArg some (committedAt_of_some h).symm⟩

theorem committedAt_isFor (s : State) (frame : BitVec 32) (len : Nat) (discard : Bool) :
    planIfFor (some (s.committedAt frame len discard)) frame len = some (s.committedAt frame len discard) := by
  refine planIfFor_eq_some_iff.mpr ⟨rfl, ?_⟩
  rcases committedAt_cases s frame len discard with h | ⟨-, h⟩
  · rw [h]; exact ⟨rfl, rfl⟩
  · exact (planIfFor_eq_some_iff.mp h).2

/-- R64, R65: the committed plan reads as the plan under construction, unless that one is discarded. -/
theorem readEntry_committedAt {s : State} {frame : BitVec 32} {len : Nat} {discard : Bool}
    (h : discard = true → planIfFor s.planner.building frame len = none) (z : ZoneId) :
    s.readEntry (some (s.committedAt frame len discard)) z =
      s.readEntry (planIfFor s.planner.building frame len) z := by
  cases hp : planIfFor s.planner.building frame len with
  | none => rw [committedAt_of_none (.inr hp), readEntry_emptyPlan]
  | some p =>
    have hd : discard = false := by simpa [hp] using h
    rw [hd, committedAt_of_some hp]

/-- R65, R68, R83, R84: the commit. -/
theorem commit_eq (frame : BitVec 32) (len : Nat) (discard : Bool) (s : State) :
    commit frame len discard s = { s with
      reports := if s.curtailedIn (s.committedAt frame len discard) = [] then s.reports
        else s.reports.offer (.curtailed frame (s.curtailedIn (s.committedAt frame len discard))),
      planner := { s.planner with
        committed := some (s.committedAt frame len discard), building := none,
        summary := s.summaryOf (s.committedAt frame len discard),
        curtailed := Vector.ofFn fun z => s.tallyAfter (s.committedAt frame len discard) z } } := by
  unfold commit
  simp only [List.isEmpty_iff]
  split <;> rfl

/-! ### The cut (R45, R66) -/

/-- R45: a queue once the chosen order, if there is one, is marked. -/
def markedQueue (c : Choice) (q : List Order) : List Order :=
  match c.source with
  | .order _ => markChosen c q
  | _ => q

theorem markZone_eq (choice : ZoneId → Choice) (z : ZoneId) (s : State) :
    markZone choice z s = s.setCell z (s.zone z) (markedQueue (choice z) (s.queue z)) [] := by
  have hset : ∀ q, s.setCell z (s.zone z) q [] = s.setQueue z q := fun q => by
    rw [State.setCell, setZone_self]
    rfl
  rw [hset, markZone, markedQueue]
  cases (choice z).source with
  | order h => rfl
  | _ => exact (setQueue_self s z).symm

/-- R66 step 5: the plan of the cut before placement. -/
def State.cutPlan (s : State) (frame : BitVec 32) (len : Nat) (taken : Bool) : Plan :=
  { frame := frame + 1, len := len, limits := s.planner.pendingLimits,
    entries := Vector.ofFn fun z => Entry.ofChoice (s.zone z).cfg (s.choose len taken z),
    sums := List.replicate len SlotSum.zero }

/-- R45, R66, R67: the cut. -/
theorem cut_eq (frame : BitVec 32) (len : Nat) (taken : Bool) (s : State) : cut frame len taken s = { s with
    orders := { s.orders with
      queues := Vector.ofFn fun z => markedQueue (s.choose len taken z) (s.queue z) },
    planner := { s.planner with
      limits := s.planner.pendingLimits,
      building := some (placeAll s (s.cutPlan frame len taken)) } } := by
  have hmark : markZone (s.choose len taken) = fun z u =>
      u.setCell z (u.zone z) (markedQueue (s.choose len taken z) (u.queue z)) [] := by
    funext z u
    exact markZone_eq _ z u
  have hzones : (Vector.ofFn fun z => s.zone z) = s.zones := by ext i hi; simp [State.zone]
  have hnone : (allZones.flatMap fun _ => ([] : List Report)) = [] := List.flatMap_eq_nil_iff.mpr fun _ _ => rfl
  unfold cut
  dsimp only
  rw [hmark, forZones_setCell (fun _ v _ => v) (fun z q => markedQueue (s.choose len taken z) q)
    (fun _ _ => []) allZones_nodup]
  simp only [mem_allZones, if_true, hzones, hnone, offerAll_nil]
  rfl

/-! ### The two takers in either order (R64, R65, R91) -/

theorem marked_handle (o : Order) : o.marked.handle = o.handle := by
  unfold Order.marked
  split <;> rfl

theorem marked_of_not_queued {o : Order} (h : o.state ≠ .queued) : o.marked = o := by
  unfold Order.marked
  split
  · next e => exact absurd e h
  · rfl

/-- R45: a mark leaves the head of a queue, or makes it PLANNED. -/
theorem markedQueue_cons (c : Choice) (o : Order) (os : List Order) :
    ∃ o' os', markedQueue c (o :: os) = o' :: os' ∧ (o' = o ∨ o' = o.marked) := by
  unfold markedQueue
  split
  · unfold markChosen
    dsimp only
    split
    · split
      · exact ⟨_, _, rfl, .inl rfl⟩
      · exact ⟨_, _, rfl, .inl rfl⟩
    · exact ⟨_, _, rfl, .inr rfl⟩
  · exact ⟨_, _, rfl, .inl rfl⟩

theorem markedQueue_nil (c : Choice) : markedQueue c [] = [] := by
  unfold markedQueue
  split <;> rfl

/-- R90, R91: a mark changes no match of a source that names no QUEUED head. -/
theorem sourceMatches_markedQueue {s t : State} {z : ZoneId} {c : Choice} {src : Source}
    (hz : t.zone z = s.zone z) (hq : t.queue z = markedQueue c (s.queue z))
    (hsrc : ∀ o os, s.queue z = o :: os → o.state = .queued → src ≠ .order o.handle) :
    t.sourceMatches z src = s.sourceMatches z src := by
  unfold State.sourceMatches
  cases src with
  | none => rfl
  | continuous => rw [hz]
  | order h =>
    rw [hz, hq]
    cases he : s.queue z with
    | nil => rw [markedQueue_nil]
    | cons o os =>
      obtain ⟨o', os', hm, ho'⟩ := markedQueue_cons c o os
      rw [hm]
      dsimp only
      by_cases hst : o.state = .queued
      · have hne : h ≠ o.handle := fun e => hsrc o os he hst (e ▸ rfl)
        have hne' : h ≠ o'.handle := by
          rcases ho' with rfl | rfl
          · exact hne
          · rwa [marked_handle]
        rw [beq_false_of_ne hne.symm, beq_false_of_ne hne'.symm]
        rfl
      · have hsame : o' = o := by
          rcases ho' with rfl | rfl
          · rfl
          · exact marked_of_not_queued hst
        rw [hsame]

theorem crossingTaken_eq (s : State) (c : Crossing) : s.crossingTaken c = s.switch.present.any fun r =>
    r.frame == c.frame && r.h == c.h && r.status == .opened := by
  unfold State.crossingTaken
  cases s.switch.present <;> rfl

/-- R65, R66: the planner at a frame boundary is the commit, then the cut from what it leaves. -/
theorem plannerAtBoundary_eq {c : Crossing} (hb : c.boundary = true) (s : State) :
    plannerAtBoundary c s = cut c.frame c.len (s.crossingTaken c) (commit c.frame c.len (c.lChanged || c.lock) s) := by
  have htaken : (commit c.frame c.len (c.lChanged || c.lock) s).crossingTaken c = s.crossingTaken c := by
    simp [State.crossingTaken]
  rw [plannerAtBoundary, if_pos hb]
  dsimp only
  rw [htaken]

theorem plannerAtBoundary_committed {c : Crossing} (hb : c.boundary = true) (s : State) :
    (plannerAtBoundary c s).planner.committed = some (s.committedAt c.frame c.len (c.lChanged || c.lock)) := by
  rw [plannerAtBoundary_eq hb, cut_eq, commit_eq]

theorem plannerAtBoundary_queue {c : Crossing} (hb : c.boundary = true) (s : State) (z : ZoneId) :
    ∃ ch, (plannerAtBoundary c s).queue z = markedQueue ch (s.queue z) := by
  rw [plannerAtBoundary_eq hb, cut_eq, commit_eq]
  simp only [State.queue, Fin.getElem_fin, Vector.getElem_ofFn]
  exact ⟨_, rfl⟩

/-- R64, R65, R91: the drive law holds of the same zones before and after the planner takes the boundary. -/
theorem drives_plannerAtBoundary {c : Crossing} {s : State} (hb : c.boundary = true)
    (hcommitted : ∀ p, s.planner.committed = some p → p.frame ≠ c.frame)
    (hdiscard : c.lChanged = true ∨ c.lock = true → ∀ p, s.planner.building = some p →
      ¬ (p.frame = c.frame ∧ p.len = c.len))
    (hqueued : ∀ p z o rest, s.planner.building = some p → s.queue z = o :: rest → o.state = .queued →
      (p.entries[z]).source ≠ .order o.handle) (h : Nat) (z : ZoneId) :
    (plannerAtBoundary c s).drives c.frame c.len h z = s.drives c.frame c.len h z := by
  have hzone : ∀ y, (plannerAtBoundary c s).zone y = s.zone y := fun y => by simp [State.zone]
  have hgroup : (plannerAtBoundary c s).groupOf z = s.groupOf z := by simp [State.groupOf, hzone, State.group]
  have hgoverning : s.governing c.frame c.len = planIfFor s.planner.building c.frame c.len := by
    have hnone : planIfFor s.planner.committed c.frame c.len = none :=
      planIfFor_eq_none_iff.mpr fun p hp e => hcommitted p hp e.1
    rw [State.governing, hnone, Option.none_or]
  have hentry : (plannerAtBoundary c s).readEntry ((plannerAtBoundary c s).governing c.frame c.len) z =
      s.readEntry (s.governing c.frame c.len) z := by
    rw [hgoverning, ← readEntry_committedAt (discard := c.lChanged || c.lock) (fun hd =>
      planIfFor_eq_none_iff.mpr (hdiscard (by simpa using hd))), State.governing, plannerAtBoundary_committed hb,
      committedAt_isFor, Option.some_or]
    simp only [State.readEntry, hzone]
  obtain ⟨ch, hqueue⟩ := plannerAtBoundary_queue hb s z
  have hmatch : (plannerAtBoundary c s).sourceMatches z (s.readEntry (s.governing c.frame c.len) z).source =
      s.sourceMatches z (s.readEntry (s.governing c.frame c.len) z).source := by
    refine sourceMatches_markedQueue (hzone z) hqueue fun o os ho hst e => ?_
    rw [hgoverning] at e
    obtain ⟨p, hp, hsource⟩ := source_of_readEntry e
    exact hqueued p z o os (planIfFor_eq_some_iff.mp hp).1 ho hst hsource
  simp only [State.drives, hentry, hgroup, hmatch, State.isLocked, plannerAtBoundary_keeps]

theorem shrunk_cfg (v : Zone) (q q' : List Order) : (v.shrunk q q').cfg = v.cfg := by
  unfold Zone.shrunk Zone.leftWith
  split <;> [skip; split] <;> rfl

/-- R19: the switch stage and the order unit write no zone's configuration. -/
theorem switchAtCrossing_cfg (frame : BitVec 32) (len h : Nat) (syn : Bool) (s : State) (z : ZoneId) :
    ((switchAtCrossing frame len h syn s).zone z).cfg = (s.zone z).cfg := by
  have hzone : (switchAtCrossing frame len h syn s).zone z = (s.zone z).shrunk (s.queue z)
      (accountedQueue (s.drivesDose frame len h z) (s.queue z)) := by
    rw [switchAtCrossing_eq]
    simp [State.zone]
  rw [hzone, shrunk_cfg]

/-- R65: the plan that a boundary commits is fixed by the planner and the zones' configurations. -/
theorem committedAt_congr {s t : State} (hp : t.planner = s.planner) (hc : ∀ z, (t.zone z).cfg = (s.zone z).cfg)
    (frame : BitVec 32) (len : Nat) (discard : Bool) :
    t.committedAt frame len discard = s.committedAt frame len discard := by
  simp only [State.committedAt, State.emptyPlan, hp, hc]

/-! ### The cut of a zone (R69 to R72) -/

section Choose

variable (s : State) (z : ZoneId) (len : Nat) (taken : Bool)

/-- R71: the slots that the committed plan holds for an order, less slot 0 once the crossing is taken. -/
theorem heldSlots_eq {p : Plan} (hp : s.planner.committed = some p) (h : Half) : s.heldSlots z h taken =
    if ((p.entries[z]).current = (s.zone z).cfg.current ∧ (p.entries[z]).group = (s.zone z).cfg.group) ∧
        (p.entries[z]).source = .order h then
      ((p.entries[z]).slots.filter fun i => !(taken && i == 0)).length
    else 0 := by
  have hfilter : ∀ l : List Nat, (if taken then (l.filter fun i => i != 0).length else l.length) =
      (l.filter fun i => !(taken && i == 0)).length := fun l => by
    cases taken with
    | true => rfl
    | false => simp
  simp only [State.heldSlots, readEntry_some, hp, hfilter]
  by_cases hst : (p.entries[z]).current = (s.zone z).cfg.current ∧ (p.entries[z]).group = (s.zone z).cfg.group
  · simp only [hst, and_self, if_true, true_and]
  · simp only [hst, if_false, false_and, Entry.empty, reduceCtorEq]

/-- R72: the order that the requests of a queue choose, the head or the second, with its request. -/
def pickOrder (request : Order → Nat) : List Order → Source × Nat
  | [] => (.none, 0)
  | o :: rest =>
    if 0 < request o then (.order o.handle, request o)
    else
      match rest with
      | [] => (.none, 0)
      | o2 :: _ => if 0 < request o2 then (.order o2.handle, request o2) else (.none, 0)

/-- R45: a queue in which the head, when it has a request, or else the second order is marked. -/
def markPicked (mark : Order → Order) (request : Order → Nat) : List Order → List Order
  | [] => []
  | o :: rest =>
    if 0 < request o then mark o :: rest
    else
      match rest with
      | [] => [o]
      | o2 :: os => o :: mark o2 :: os

/-- R45, R72: what the cut chooses from a queue, and the mark that it makes there. -/
theorem chooseOrder_eq (q : List Order) :
    (s.chooseOrder z len taken q).source = (pickOrder (s.orderRequest z len taken) q).1 ∧
    (s.chooseOrder z len taken q).request = (pickOrder (s.orderRequest z len taken) q).2 ∧
    markedQueue (s.chooseOrder z len taken q) q =
      if 0 < (pickOrder (s.orderRequest z len taken) q).2 then
        markPicked Order.marked (s.orderRequest z len taken) q
      else q := by
  unfold State.chooseOrder pickOrder markPicked
  cases q with
  | nil => exact ⟨rfl, rfl, rfl⟩
  | cons o rest =>
    dsimp only
    by_cases h : 0 < s.orderRequest z len taken o
    · simp [h, markedQueue, markChosen]
    · cases rest with
      | nil => simp [h, markedQueue, Choice.none]
      | cons o2 os =>
        by_cases h2 : 0 < s.orderRequest z len taken o2 <;> simp [h, h2, markedQueue, markChosen, Choice.none]

variable {s z len taken}

theorem choose_of_not_closed (h : (s.groupOf z).state ≠ .closed) : s.choose len taken z = .none := if_neg h

theorem choose_of_closed (h : (s.groupOf z).state = .closed) : s.choose len taken z =
    match (s.zone z).state with
    | .demand => { source := .continuous, request := min (s.zone z).demand len, second := false }
    | .dosing => s.chooseOrder z len taken (s.queue z)
    | _ => .none := if_pos h

end Choose

theorem marked_eq : Order.marked = fun o => if o.state = .queued then { o with state := .planned } else o := by
  funext o
  unfold Order.marked
  cases o.state <;> rfl

/-! ### What the boundary records of a plan (R68, R83, R84) -/

/-- R68, R83: by how much a zone that stands in a plan is granted less than its request. -/
def State.shortIn (s : State) (p : Plan) (z : ZoneId) : Nat :=
  if (p.entries[z]).current = (s.zone z).cfg.current ∧ (p.entries[z]).group = (s.zone z).cfg.group then
    (p.entries[z]).requested - (p.entries[z]).granted else 0

theorem curtailedIn_eq (s : State) (p : Plan) : s.curtailedIn p = allZones.filterMap fun z =>
    if 0 < s.shortIn p z then some { zone := z, requested := (p.entries[z]).requested,
                                     granted := (p.entries[z]).granted }
    else none := by
  refine List.filterMap_congr fun z _ => ?_
  simp only [readEntry_some, State.shortIn]
  split
  · simp only [Nat.sub_pos_iff_lt]
  · rfl

theorem tallyAfter_eq (s : State) (p : Plan) (z : ZoneId) : s.tallyAfter p z =
    if s.shortIn p z = 0 then s.planner.curtailed[z]
    else min 4294967295 (s.planner.curtailed[z] + s.shortIn p z) := by
  simp only [State.tallyAfter, readEntry_some, State.shortIn]
  split
  · simp only [Nat.sub_eq_zero_iff_le, ← Nat.not_lt, ite_not]
    rfl
  · rfl

theorem summaryOf_eq (s : State) (p : Plan) : s.summaryOf p = {
    frame := p.frame, len := p.len, limits := p.limits, governs := true,
    zones := Vector.ofFn fun z =>
      if (p.entries[z]).current = (s.zone z).cfg.current ∧ (p.entries[z]).group = (s.zone z).cfg.group then
        { source := (p.entries[z]).source, requested := (p.entries[z]).requested,
          granted := (p.entries[z]).granted }
      else { source := .none, requested := 0, granted := 0 } } := by
  have hread : ∀ z, (⟨(s.readEntry (some p) z).source, (s.readEntry (some p) z).requested,
      (s.readEntry (some p) z).granted⟩ : SummaryEntry) =
      if (p.entries[z]).current = (s.zone z).cfg.current ∧ (p.entries[z]).group = (s.zone z).cfg.group then
        { source := (p.entries[z]).source, requested := (p.entries[z]).requested,
          granted := (p.entries[z]).granted }
      else { source := .none, requested := 0, granted := 0 } := fun z => by
    rw [readEntry_some]
    split <;> rfl
  simp only [State.summaryOf, hread]

/-- R74, R76: placement reads the zone table and no other block. -/
theorem placeAll_congr {s t : State} (hz : t.zones = s.zones) (p : Plan) : placeAll t p = placeAll s p := by
  have hzone : t.zone = s.zone := funext fun z => by rw [State.zone, hz]; rfl
  have hplace : placeZone t = placeZone s := by
    funext q z
    simp only [placeZone, hzone]
  simp only [placeAll, serviceOrder, hplace, hzone]

/-- Settles O28: the drive law reads the same plan on either side of the planner, and the planner's whole part is
`commit_eq` and `cut_eq`, read zone by zone. -/
theorem switchStageAndPlannerMayTakeABoundaryInEitherOrder :
    Obligations.SwitchStageAndPlannerMayTakeABoundaryInEitherOrder := by
  refine ⟨fun c s hb hcommitted hdiscard hqueued => ⟨?_, ?_⟩, fun c s hb => ?_⟩
  · have hdrives : (plannerAtBoundary c s).drives c.frame c.len c.h = s.drives c.frame c.len c.h :=
      funext (drives_plannerAtBoundary hb hcommitted hdiscard hqueued c.h)
    have hfirst : (takeCrossing c .planner (takeCrossing c .switchStage s)).switch =
        (takeCrossing c .switchStage s).switch := takeCrossing_switch .planner _ nofun
    have hplanner : takeCrossing c .planner s = plannerAtBoundary c s := rfl
    rw [hfirst, hplanner]
    simp only [takeCrossing, switchAtCrossing_eq, hdrives, driveLines, plannerAtBoundary_keeps, State.currentOf,
      State.zone]
  · have hsecond : (takeCrossing c .switchStage (takeCrossing c .planner s)).planner =
        (takeCrossing c .planner s).planner := takeCrossing_planner .switchStage _ nofun
    rw [hsecond]
    refine (plannerAtBoundary_committed hb _).trans (Eq.trans (congrArg some ?_)
      (plannerAtBoundary_committed hb s).symm)
    exact committedAt_congr (takeCrossing_planner .switchStage s nofun) (switchAtCrossing_cfg _ _ _ _ s) _ _ _
  · intro t empty
    let p := s.committedAt c.frame c.len (c.lChanged || c.lock)
    have hempty : ∀ q, q = s.emptyPlan c.frame c.len → empty q := by
      rintro q rfl
      exact ⟨rfl, rfl, rfl, fun z => by simp [State.emptyPlan, Entry.empty]⟩
    refine ⟨p, plannerAtBoundary_committed hb s, fun hd => hempty p (committedAt_of_none (.inl (by simpa using hd))),
      fun hl hk => ?_, ?_⟩
    · have hp : p = s.committedAt c.frame c.len false := by simp only [p, hl, hk, Bool.or_self]
      refine ⟨fun b hbuild hf hlen => ?_, fun hnone => hempty p ?_⟩
      · exact hp.trans (committedAt_of_some (planIfFor_eq_some_iff.mpr ⟨hbuild, hf, hlen⟩))
      · exact hp.trans (committedAt_of_none (.inr (planIfFor_eq_none_iff.mpr hnone)))
    · intro stands short curtailed taken held request cut planned marked
      let u := commit c.frame c.len (c.lChanged || c.lock) s
      have hzone : ∀ z, u.zone z = s.zone z := fun z => by simp [u, State.zone]
      have hqueue : ∀ z, u.queue z = s.queue z := fun z => by simp [u, State.queue]
      have hgroup : ∀ z, u.groupOf z = s.groupOf z := fun z => by simp [State.groupOf, hzone, u, State.group]
      have hcommitted : u.planner.committed = some p := by simp only [u, commit_eq, p]
      have hheld : ∀ z (o : Order), u.heldSlots z o.handle taken = held z o := fun z o => by
        rw [heldSlots_eq u z taken hcommitted, hzone]
      have hrequest : ∀ z, u.orderRequest z c.len taken = request z := fun z => by
        funext o
        simp only [State.orderRequest, hheld, request]
      have hchoice : ∀ z, (u.choose c.len taken z).source = (cut z).1 ∧
          (u.choose c.len taken z).request = (cut z).2 ∧
          markedQueue (u.choose c.len taken z) (s.queue z) = marked z := by
        intro z
        by_cases hc : (s.groupOf z).state = .closed
        · rw [choose_of_closed ((hgroup z).symm ▸ hc), hzone, hqueue]
          cases hst : (s.zone z).state with
          | demand => simp [cut, marked, hc, hst, markedQueue]
          | dosing =>
            have hspec := chooseOrder_eq u z c.len taken (s.queue z)
            rw [hrequest, marked_eq] at hspec
            simp only [cut, marked, hc, hst, if_true, and_true]
            exact hspec
          | disabled | idle | faulted | locked => simp [cut, marked, hc, hst, markedQueue, Choice.none]
        · rw [choose_of_not_closed (by rw [hgroup]; exact hc)]
          simp [cut, marked, hc, markedQueue, Choice.none]
      have hmarked : (fun z => markedQueue (u.choose c.len taken z) (u.queue z)) = marked := by
        funext z
        obtain ⟨-, -, hm⟩ := hchoice z
        rw [hqueue, hm]
      have hplan : u.cutPlan c.frame c.len taken = {
          frame := c.frame + 1, len := c.len, limits := s.planner.pendingLimits,
          sums := List.replicate c.len { supply := 0, group := Vector.ofFn fun _ => 0 },
          entries := Vector.ofFn fun z => {
            source := (cut z).1, requested := (cut z).2, granted := 0, slots := [],
            current := (s.zone z).cfg.current, group := (s.zone z).cfg.group } } := by
        have hlimits : u.planner.pendingLimits = s.planner.pendingLimits := by simp only [u, commit_eq]
        have hentries : (fun z => Entry.ofChoice (u.zone z).cfg (u.choose c.len taken z)) = fun z => {
            source := (cut z).1, requested := (cut z).2, granted := 0, slots := [],
            current := (s.zone z).cfg.current, group := (s.zone z).cfg.group } := by
          funext z
          obtain ⟨hs, hr, -⟩ := hchoice z
          rw [Entry.ofChoice, hs, hr, hzone]
        rw [State.cutPlan, hlimits, hentries]
        rfl
      have hcommit : u = { s with
          reports := if curtailed = [] then s.reports else s.reports.offer (.curtailed c.frame curtailed),
          planner := { s.planner with
            committed := some p, building := none, summary := s.summaryOf p,
            curtailed := Vector.ofFn (s.tallyAfter p) } } := by
        have hcurtailed : s.curtailedIn p = curtailed := curtailedIn_eq s p
        rw [← hcurtailed]
        exact commit_eq _ _ _ _
      have hzones : u.zones = s.zones := by simp [u]
      have hcut : t = Machine.cut c.frame c.len taken u := (plannerAtBoundary_eq hb s).trans
        (congrArg (fun b => Machine.cut c.frame c.len b u) (crossingTaken_eq s c))
      rw [summaryOf_eq, funext (tallyAfter_eq s p)] at hcommit
      rw [hcut, cut_eq, hmarked, placeAll_congr hzones, hplan, hcommit]
      rfl

end Sys2Proof.Machine
end

section
/-! SUPPORT. The order of service: the rotation keys of a frame and the zones that they number. Settles O31. -/

namespace Sys2Proof.Machine

/-! ### Rotation keys (R74) -/

/-- R74: the rotation key of a zone in the plan for frame F. -/
def rotationKey (frame : BitVec 32) (z : ZoneId) : Nat := (z.val + 24 - frame.toNat % 24) % 24

theorem rotationKey_zoneOfKey (frame : BitVec 32) {key : Nat} (h : key < 24) :
    rotationKey frame (zoneOfKey frame key) = key := by
  have hr : frame.toNat % 24 < 24 := Nat.mod_lt _ (by decide)
  simp only [rotationKey, zoneOfKey]
  omega

theorem zoneOfKey_rotationKey (frame : BitVec 32) (z : ZoneId) :
    zoneOfKey frame (rotationKey frame z) = z := by
  have hr : frame.toNat % 24 < 24 := Nat.mod_lt _ (by decide)
  have hz := z.isLt
  apply Fin.ext
  simp only [rotationKey, zoneOfKey]
  omega

theorem rotationKey_lt (frame : BitVec 32) (z : ZoneId) : rotationKey frame z < 24 :=
  Nat.mod_lt _ (by decide)

/-- R74: the zones in ascending rotation key. -/
theorem zonesByKey_pairwise (frame : BitVec 32) :
    ((List.range 24).map (zoneOfKey frame)).Pairwise fun y z => rotationKey frame y < rotationKey frame z := by
  refine List.pairwise_map.mpr (List.pairwise_lt_range.imp_of_mem fun ha hb hlt => ?_)
  rw [rotationKey_zoneOfKey frame (List.mem_range.mp ha), rotationKey_zoneOfKey frame (List.mem_range.mp hb)]
  exact hlt

/-! ### The order of service (R74) -/

theorem mem_serviceOrder (s : State) (frame : BitVec 32) (z : ZoneId) : z ∈ serviceOrder s frame := by
  have hkey : z ∈ (List.range 24).map (zoneOfKey frame) :=
    List.mem_map.mpr ⟨_, List.mem_range.mpr (rotationKey_lt frame z), zoneOfKey_rotationKey frame z⟩
  exact List.mem_flatMap.mpr ⟨_, List.mem_finRange _, List.mem_filter.mpr ⟨hkey, beq_self_eq_true _⟩⟩

/-- R74: one zone is served before another of a higher class, or of its class and a higher rotation key. -/
def State.servedBefore (s : State) (frame : BitVec 32) (y z : ZoneId) : Prop :=
  (s.zone y).cfg.prio < (s.zone z).cfg.prio ∨
    ((s.zone y).cfg.prio = (s.zone z).cfg.prio ∧ rotationKey frame y < rotationKey frame z)

theorem serviceOrder_pairwise (s : State) (frame : BitVec 32) :
    (serviceOrder s frame).Pairwise (s.servedBefore frame) := by
  refine List.pairwise_flatMap.mpr ⟨fun c _ => ?_, (List.pairwise_lt_finRange 4).imp fun hlt y hy z hz => ?_⟩
  · refine ((zonesByKey_pairwise frame).filter _).imp_of_mem fun hy hz hlt => .inr ⟨?_, hlt⟩
    exact (eq_of_beq (List.mem_filter.mp hy).2).trans (eq_of_beq (List.mem_filter.mp hz).2).symm
  · have hy' : (s.zone y).cfg.prio = _ := eq_of_beq (List.mem_filter.mp hy).2
    have hz' : (s.zone z).cfg.prio = _ := eq_of_beq (List.mem_filter.mp hz).2
    exact .inl (by rw [hy', hz']; exact hlt)

theorem serviceOrder_nodup (s : State) (frame : BitVec 32) : (serviceOrder s frame).Nodup := by
  refine (serviceOrder_pairwise s frame).imp fun h e => ?_
  subst e
  rcases h with h | ⟨-, h⟩
  · exact lt_irrefl _ h
  · exact lt_irrefl _ h

/-- Settles O31: `serviceOrder_pairwise` is the order, in which no zone stands twice. -/
theorem orderOfServiceFollowsClassAndRotation : Obligations.OrderOfServiceFollowsClassAndRotation :=
  fun s frame => ⟨serviceOrder_nodup s frame, mem_serviceOrder s frame, serviceOrder_pairwise s frame⟩

end Sys2Proof.Machine
end

section
/-! SUPPORT. Placement: the ideal slots of a request, the slot that takes a half-cycle, and what one half-cycle
makes of its entry and of the sums. Settles O30. -/

namespace Sys2Proof.Machine

/-! ### Ideal slots (R75) -/

theorem idealSlot_lt {len : Nat} (hlen : 0 < len) (offset r k : Nat) : idealSlot len offset r k < len :=
  Nat.mod_lt _ hlen

/-- R75: without the phase offset a half-cycle's ideal slot already lies within the frame. -/
theorem spread_lt {len r k : Nat} (hlen : 0 < len) (hk : k < r) : k * len / r < len := by
  refine Nat.div_lt_of_lt_mul ?_
  exact Nat.mul_lt_mul_of_pos_right hk hlen

/-- R75: for a request of at most L the slots step on by one or more from each half-cycle to the next. -/
theorem spread_strictMono {len r j k : Nat} (hr : 0 < r) (hlen : r ≤ len) (hjk : j < k) :
    j * len / r < k * len / r :=
  calc j * len / r < j * len / r + 1 := Nat.lt_succ_self _
    _ = (j * len + r) / r := (Nat.add_div_right _ hr).symm
    _ ≤ (j + 1) * len / r := Nat.div_le_div_right (by rw [Nat.succ_mul]; omega)
    _ ≤ k * len / r := Nat.div_le_div_right (Nat.mul_le_mul_right _ hjk)

/-- R75: no two half-cycles of a request of at most L have one ideal slot. -/
theorem idealSlot_inj {len offset r j k : Nat} (hlen : r ≤ len) (hj : j < r) (hk : k < r)
    (h : idealSlot len offset r j = idealSlot len offset r k) : j = k := by
  have hr : 0 < r := Nat.zero_lt_of_lt hj
  have hspread : j * len / r = k * len / r :=
    Nat.ModEq.eq_of_lt_of_lt (Nat.ModEq.add_right_cancel' _ h) (spread_lt (by omega) hj) (spread_lt (by omega) hk)
  rcases Nat.lt_trichotomy j k with hlt | heq | hgt
  · exact absurd hspread (spread_strictMono hr hlen hlt).ne
  · exact heq
  · exact absurd hspread (spread_strictMono hr hlen hgt).ne'

theorem idealSlots_nodup {len r : Nat} (offset : Nat) (hlen : r ≤ len) :
    ((List.range r).map (idealSlot len offset r)).Nodup :=
  List.nodup_range.map_on fun _ hj _ hk =>
    idealSlot_inj hlen (List.mem_range.mp hj) (List.mem_range.mp hk)

/-! ### The slot that takes a half-cycle (R76) -/

/-- R76: a slot takes a half-cycle of an entry: it does not hold the zone, and it is not full for its current. -/
def Entry.fits (e : Entry) (lim : Limits) (sums : List SlotSum) (h : Nat) : Prop :=
  h ∉ e.slots ∧ (sums.getD h .zero).supply + e.current ≤ lim.supply ∧
    (sums.getD h .zero).group[e.group] + e.current ≤ lim.group[e.group]

variable {lim : Limits} {len : Nat} {sums : List SlotSum} {e : Entry} {p h : Nat}

/-- The test of `findSlot`, read as a proposition. -/
theorem fits_iff : (!e.slots.contains h && (sums.getD h .zero).takes lim e.current e.group) = true ↔
    e.fits lim sums h := by
  simp [Entry.fits, SlotSum.takes]

theorem lt_of_mem_slotsFrom (hh : h ∈ slotsFrom len p) : h < len := by
  obtain ⟨i, hi, rfl⟩ := List.mem_map.mp hh
  exact Nat.mod_lt _ (Nat.zero_lt_of_lt (List.mem_range.mp hi))

theorem findSlot_of_none_fits (hnone : ∀ h < len, ¬ e.fits lim sums h) : findSlot lim len sums e p = none := by
  refine List.find?_eq_none.mpr fun h hh => ?_
  rw [fits_iff]
  exact hnone h (lt_of_mem_slotsFrom hh)

/-- R76: the slots are tried from the given one on, wrapping, and the first that fits takes the half-cycle. -/
theorem findSlot_of_first {i : Nat} (hi : i < len) (hskip : ∀ j < i, ¬ e.fits lim sums ((p + j) % len))
    (hfits : e.fits lim sums ((p + i) % len)) : findSlot lim len sums e p = some ((p + i) % len) := by
  unfold findSlot slotsFrom
  rw [List.find?_map, List.find?_range_eq_some.mpr ⟨fits_iff.mpr hfits, List.mem_range.mpr hi, fun j hj => ?_⟩]
  · rfl
  · rw [Bool.not_eq_true', ← Bool.not_eq_true]
    exact fun ht => hskip j hj (fits_iff.mp ht)

/-- R76: a slot that is found lies in the frame and fits. -/
theorem fits_of_findSlot (hfound : findSlot lim len sums e p = some h) : h < len ∧ e.fits lim sums h := by
  have htest := List.find?_some (show List.find? _ _ = some h from hfound)
  exact ⟨lt_of_mem_slotsFrom (List.mem_of_find?_eq_some hfound), fits_iff.mp htest⟩

/-! ### One half-cycle (R76, R77) -/

theorem placeHalfCycle_of_found {offset k : Nat}
    (hfound : findSlot lim len sums e (idealSlot len offset e.requested k) = some h) :
    placeHalfCycle lim len offset (e, sums) k =
      ({ e with slots := e.slots ++ [h], granted := e.granted + 1 },
       sums.set h ((sums.getD h .zero).add e.current e.group)) := by
  simp only [placeHalfCycle, hfound]

theorem placeHalfCycle_of_not_found {offset k : Nat}
    (hnone : findSlot lim len sums e (idealSlot len offset e.requested k) = none) :
    placeHalfCycle lim len offset (e, sums) k = (e, sums) := by
  simp only [placeHalfCycle, hnone]

/-- R76: a slot of the frame is skipped when it holds the zone, or its supply or group is full. -/
theorem skipped_iff_not_fits (hh : h < sums.length) :
    (h ∈ e.slots ∨ ∃ x, sums[h]? = some x ∧
      (lim.supply < x.supply + e.current ∨ lim.group[e.group] < x.group[e.group] + e.current)) ↔
    ¬ e.fits lim sums h := by
  have hget : sums.getD h .zero = sums[h] := by simp [hh]
  rw [Entry.fits, hget, List.getElem?_eq_getElem hh]
  simp only [Option.some.injEq, exists_eq_left', Classical.not_and_iff_not_or_not, not_not, Nat.not_le]

theorem placeZone_eq (s : State) (p : Plan) (z : ZoneId) : placeZone s p z = { p with
    entries := p.entries.set z.val
      (placeEntry p.limits p.len (s.zone z).cfg.offset p.entries[z] p.sums).1 z.isLt,
    sums := (placeEntry p.limits p.len (s.zone z).cfg.offset p.entries[z] p.sums).2 } := rfl

/-- Settles O30: `idealSlots_nodup`, and `findSlot_of_none_fits` and `findSlot_of_first` for the half-cycles that
are curtailed and placed. -/
theorem idealSlotsDifferAndCurtailmentLasts : Obligations.IdealSlotsDifferAndCurtailmentLasts := by
  refine ⟨fun len offset r hr => ⟨idealSlots_nodup offset hr, fun k hk => ⟨idealSlot_lt (by omega) _ _ _, rfl⟩⟩,
    fun lim len offset e sums hlen => ?_, placeZone_eq⟩
  intro skipped
  have hskipped : ∀ h < len, (skipped h ↔ ¬ e.fits lim sums h) := fun h hh => skipped_iff_not_fits (hlen ▸ hh)
  refine ⟨fun hall k => placeHalfCycle_of_not_found (findSlot_of_none_fits fun h hh =>
    (hskipped h hh).mp (hall h hh)), fun k i x hi => ?_⟩
  intro slot hbefore hslot hx
  have hlt : ∀ j, slot j < len := fun j => Nat.mod_lt _ (by omega)
  have hfound : findSlot lim len sums e (idealSlot len offset e.requested k) = some (slot i) :=
    findSlot_of_first hi (fun j hj => (hskipped _ (hlt j)).mp (hbefore j hj))
      (not_not.mp fun hn => hslot ((hskipped _ (hlt i)).mpr hn))
  have hget : sums.getD (slot i) .zero = x := by rw [List.getD_eq_getElem?_getD, hx]; rfl
  rw [placeHalfCycle_of_found hfound, hget]
  rfl

end Sys2Proof.Machine
end

section
/-! SUPPORT. A sound plan: one more half-cycle in a slot that takes it keeps a plan sound, so placement does; and
the zones that a sound plan drives stay within its limits. Settles O29. -/

namespace Sys2Proof.Machine

/-! ### The sums of a slot (R63) -/

/-- R63: what an entry adds to the sum of a slot, where `pick` counts it. -/
def Entry.currentAt (e : Entry) (h : Nat) (pick : Entry → Bool) : Nat :=
  if e.slots.contains h && pick e then e.current else 0

theorem entry_currentAt_of_mem {e : Entry} {h : Nat} {pick : Entry → Bool} (hslot : h ∈ e.slots)
    (hpick : pick e = true) : e.currentAt h pick = e.current := by
  simp [Entry.currentAt, hslot, hpick]

theorem entry_currentAt_of_not_mem {e : Entry} {h : Nat} (hslot : h ∉ e.slots) (pick : Entry → Bool) :
    e.currentAt h pick = 0 := by
  simp [Entry.currentAt, hslot]

theorem currentAt_eq_sum (p : Plan) (h : Nat) (pick : Entry → Bool) :
    p.currentAt h pick = ∑ z : ZoneId, (p.entries[z]).currentAt h pick :=
  (Fin.sum_univ_def _).symm

theorem currentAt_of_not_mem {p : Plan} {h : Nat} (hslots : ∀ z : ZoneId, h ∉ (p.entries[z]).slots)
    (pick : Entry → Bool) : p.currentAt h pick = 0 := by
  rw [currentAt_eq_sum]
  exact Finset.sum_eq_zero fun z _ => entry_currentAt_of_not_mem (hslots z) pick

/-- R63: a plan in which no zone has a slot, and no slot a current, is sound. -/
theorem sound_of_no_slots {p : Plan} (hsums : p.sums = List.replicate p.len .zero)
    (hentries : ∀ z : ZoneId, (p.entries[z]).slots = [] ∧ (p.entries[z]).granted = 0 ∧
      (p.entries[z]).requested ≤ p.len ∧ ((p.entries[z]).source = .none → (p.entries[z]).requested = 0)) :
    p.sound := by
  have hslots : ∀ h, ∀ z : ZoneId, h ∉ (p.entries[z]).slots := fun h z => by
    obtain ⟨hs, -⟩ := hentries z
    exact hs ▸ List.not_mem_nil
  refine ⟨by rw [hsums, List.length_replicate], fun z => ?_, fun h hh => ?_⟩
  · obtain ⟨hs, hg, hr, hnone⟩ := hentries z
    rw [hs, hg]
    exact ⟨List.nodup_nil, nofun, rfl, Nat.zero_le _, hr, hnone⟩
  · have hzero : p.sums.getD h .zero = .zero := by simp [hsums, hh]
    simp only [hzero, currentAt_of_not_mem (hslots h)]
    exact ⟨rfl, Nat.zero_le _, fun g => by simp [SlotSum.zero]⟩

/-! ### One more half-cycle in a plan (R76) -/

/-- R76: an entry with one more slot. -/
def Entry.withSlot (e : Entry) (h : Nat) : Entry :=
  { e with slots := e.slots ++ [h], granted := e.granted + 1 }

/-- R63: the slot that an entry takes on counts its current, where the entry is counted. -/
theorem withSlot_currentAt {e : Entry} {h : Nat} (hnot : h ∉ e.slots) (j : Nat) {pick : Entry → Bool}
    (hpick : pick (e.withSlot h) = pick e) : (e.withSlot h).currentAt j pick =
      e.currentAt j pick + if j = h ∧ pick e = true then e.current else 0 := by
  unfold Entry.currentAt
  rw [hpick]
  by_cases hj : j = h
  · subst hj
    simp [Entry.withSlot, hnot]
  · simp [Entry.withSlot, hj]

/-- R76: a plan with one more half-cycle of a zone, in slot `h`. -/
def Plan.addSlot (p : Plan) (z : ZoneId) (h : Nat) : Plan :=
  { p with
    entries := p.entries.set z.val (p.entries[z].withSlot h) z.isLt,
    sums := p.sums.set h ((p.sums.getD h .zero).add p.entries[z].current p.entries[z].group) }

section AddSlot

variable {p : Plan} {z : ZoneId} {h : Nat}

theorem addSlot_entry (y : ZoneId) :
    (p.addSlot z h).entries[y] = if y = z then p.entries[z].withSlot h else p.entries[y] := by
  simp only [Plan.addSlot, Fin.getElem_fin, Vector.getElem_set, Fin.ext_iff, eq_comm]

theorem addSlot_sum_self (hh : h < p.sums.length) : (p.addSlot z h).sums.getD h .zero =
    (p.sums.getD h .zero).add p.entries[z].current p.entries[z].group := by
  simp only [Plan.addSlot, List.getD_eq_getElem?_getD, List.getElem?_set_self hh, Option.getD_some]

theorem addSlot_sum_other {j : Nat} (hne : j ≠ h) :
    (p.addSlot z h).sums.getD j .zero = p.sums.getD j .zero := by
  simp only [Plan.addSlot, List.getD_eq_getElem?_getD, List.getElem?_set_ne hne.symm]

theorem add_group (x : SlotSum) (i : Nat) (g f : GroupId) :
    (x.add i g).group[f] = x.group[f] + if g = f then i else 0 := by
  simp only [SlotSum.add, Fin.getElem_fin, Vector.getElem_set, Fin.ext_iff]
  split
  · next e => simp only [e]
  · rfl

/-- R63: the one more half-cycle adds its current to its slot, in the counts that pick its entry. -/
theorem addSlot_currentAt (hnot : h ∉ p.entries[z].slots) (j : Nat) {pick : Entry → Bool}
    (hpick : pick (p.entries[z].withSlot h) = pick p.entries[z]) : (p.addSlot z h).currentAt j pick =
      p.currentAt j pick + if j = h ∧ pick p.entries[z] = true then p.entries[z].current else 0 := by
  have hzone : ∀ y : ZoneId, ((p.addSlot z h).entries[y]).currentAt j pick = (p.entries[y]).currentAt j pick +
      if z = y then (if j = h ∧ pick p.entries[z] = true then p.entries[z].current else 0) else 0 := by
    intro y
    rw [addSlot_entry]
    by_cases hy : y = z
    · subst hy
      rw [if_pos rfl, if_pos rfl, withSlot_currentAt hnot j hpick]
    · rw [if_neg hy, if_neg (Ne.symm hy), Nat.add_zero]
  simp only [currentAt_eq_sum, hzone, Finset.sum_add_distrib, Finset.sum_ite_eq, Finset.mem_univ, if_true]

/-- R63, R76: one more half-cycle, of a zone that has room, in a slot that takes it, keeps a plan sound. -/
theorem addSlot_sound (hp : p.sound) (hh : h < p.len) (hfits : p.entries[z].fits p.limits p.sums h)
    (hroom : p.entries[z].granted < p.entries[z].requested) : (p.addSlot z h).sound := by
  obtain ⟨hlen, hentries, hsums⟩ := hp
  obtain ⟨hnot, hsupply, hgroup⟩ := hfits
  refine ⟨List.length_set.trans hlen, fun y => ?_, fun j hj => ?_⟩
  · rw [addSlot_entry]
    split
    · obtain ⟨hnodup, hlt, hgranted, -, hrequested, hnone⟩ := hentries z
      refine ⟨?_, ?_, ?_, hroom, hrequested, hnone⟩
      · exact List.nodup_append.mpr ⟨hnodup, List.nodup_singleton h, by
          rintro a ha b hb rfl; exact hnot (List.mem_singleton.mp hb ▸ ha)⟩
      · intro a ha
        rcases List.mem_append.mp ha with ha | ha
        · exact hlt a ha
        · exact List.mem_singleton.mp ha ▸ hh
      · simp only [Entry.withSlot, hgranted, List.length_append, List.length_singleton]
    · exact hentries y
  · obtain ⟨hs, hsle, hg⟩ := hsums j hj
    have hcurrent := @addSlot_currentAt p z h hnot j
    by_cases hjh : j = h
    · subst hjh
      rw [addSlot_sum_self (hlen ▸ hh), hcurrent rfl]
      refine ⟨?_, hsupply, fun g => ?_⟩
      · simp only [SlotSum.add, hs, and_self, if_true]
      · obtain ⟨hgs, hgle⟩ := hg g
        rw [add_group, hcurrent rfl]
        refine ⟨by simp only [hgs, true_and, beq_iff_eq], ?_⟩
        split
        · next e => exact e ▸ hgroup
        · exact hgle
    · have hsame : ∀ {pick : Entry → Bool}, pick (p.entries[z].withSlot h) = pick p.entries[z] →
          (p.addSlot z h).currentAt j pick = p.currentAt j pick := fun hpick =>
        (hcurrent hpick).trans (by rw [if_neg fun e => hjh e.1, Nat.add_zero])
      rw [addSlot_sum_other hjh, hsame rfl]
      exact ⟨hs, hsle, fun g => by rw [hsame rfl]; exact hg g⟩

end AddSlot

/-! ### Placement keeps a plan sound (R74, R76) -/

/-- A plan with the entry of a zone and the sums replaced, as placement carries them. -/
def Plan.carrying (p : Plan) (z : ZoneId) (x : Entry × List SlotSum) : Plan :=
  { p with entries := p.entries.set z.val x.1 z.isLt, sums := x.2 }

@[simp] theorem carrying_entry_self (p : Plan) (z : ZoneId) (x : Entry × List SlotSum) :
    (p.carrying z x).entries[z] = x.1 := by
  simp [Plan.carrying]

theorem carrying_entry_other (p : Plan) {y z : ZoneId} (hne : y ≠ z) (x : Entry × List SlotSum) :
    (p.carrying z x).entries[y] = p.entries[y] := by
  have hval : z.val ≠ y.val := fun e => hne (Fin.ext e.symm)
  simp [Plan.carrying, hval]

theorem carrying_self (p : Plan) (z : ZoneId) : p.carrying z (p.entries[z], p.sums) = p := by
  simp [Plan.carrying]

/-- R76: one half-cycle of a zone is curtailed, or is one more in a slot that takes it. -/
theorem placeHalfCycle_cases (p : Plan) (z : ZoneId) (offset : Nat) (x : Entry × List SlotSum) (k : Nat) :
    placeHalfCycle p.limits p.len offset x k = x ∨
    ∃ h < p.len, x.1.fits p.limits x.2 h ∧ (placeHalfCycle p.limits p.len offset x k).1 = x.1.withSlot h ∧
      p.carrying z (placeHalfCycle p.limits p.len offset x k) = (p.carrying z x).addSlot z h := by
  obtain ⟨e, sums⟩ := x
  cases hfound : findSlot p.limits p.len sums e (idealSlot p.len offset e.requested k) with
  | none => exact .inl (placeHalfCycle_of_not_found hfound)
  | some h =>
    obtain ⟨hh, hfits⟩ := fits_of_findSlot hfound
    refine .inr ⟨h, hh, hfits, ?_⟩
    rw [placeHalfCycle_of_found hfound]
    exact ⟨rfl, by simp [Plan.carrying, Plan.addSlot, Entry.withSlot]⟩

/-- R76: a zone's entry and the sums of a plan once the first `n` half-cycles of the zone are placed. -/
def Plan.placedFirst (p : Plan) (z : ZoneId) (offset n : Nat) : Entry × List SlotSum :=
  (List.range n).foldl (placeHalfCycle p.limits p.len offset) (p.entries[z], p.sums)

theorem placedFirst_succ (p : Plan) (z : ZoneId) (offset n : Nat) : p.placedFirst z offset (n + 1) =
    placeHalfCycle p.limits p.len offset (p.placedFirst z offset n) n := by
  simp only [Plan.placedFirst, List.range_succ, List.foldl_append, List.foldl_cons, List.foldl_nil]

theorem placeZone_eq_carrying (s : State) (p : Plan) (z : ZoneId) : placeZone s p z =
    p.carrying z (p.placedFirst z (s.zone z).cfg.offset p.entries[z].requested) := rfl

/-- R76: the first `n` half-cycles of a zone that has no slot yet keep the plan sound. -/
theorem placedFirst_sound {p : Plan} {z : ZoneId} (hp : p.sound) (hnew : p.entries[z].granted = 0)
    (offset : Nat) {n : Nat} (hn : n ≤ p.entries[z].requested) :
    (p.carrying z (p.placedFirst z offset n)).sound ∧ (p.placedFirst z offset n).1.granted ≤ n ∧
    (p.placedFirst z offset n).1.requested = p.entries[z].requested := by
  induction n with
  | zero => exact ⟨(carrying_self p z).symm ▸ hp, hnew.le, rfl⟩
  | succ n ih =>
    obtain ⟨hsound, hgranted, hrequested⟩ := ih (Nat.le_of_succ_le hn)
    rw [placedFirst_succ]
    rcases placeHalfCycle_cases p z offset (p.placedFirst z offset n) n with e | ⟨h, hh, hfits, hentry, hplan⟩
    · rw [e]
      exact ⟨hsound, Nat.le_succ_of_le hgranted, hrequested⟩
    · rw [hplan, hentry]
      refine ⟨addSlot_sound hsound hh ?_ ?_, Nat.succ_le_succ hgranted, hrequested⟩ <;> rw [carrying_entry_self]
      · exact hfits
      · omega

theorem placeZone_sound {p : Plan} {z : ZoneId} (s : State) (hp : p.sound) (hnew : p.entries[z].granted = 0) :
    (placeZone s p z).sound := by
  obtain ⟨hsound, -⟩ := placedFirst_sound hp hnew (s.zone z).cfg.offset (Nat.le_refl _)
  rw [placeZone_eq_carrying]
  exact hsound

theorem placeZone_entry_other (s : State) (p : Plan) {y z : ZoneId} (hne : y ≠ z) :
    (placeZone s p z).entries[y] = p.entries[y] := by
  rw [placeZone_eq_carrying, carrying_entry_other p hne]

/-- R74, R76: placing each zone of a list once keeps sound a plan in which they have no slot yet. -/
theorem placeZones_sound (s : State) {zs : List ZoneId} (hzs : zs.Nodup) {p : Plan} (hp : p.sound)
    (hnew : ∀ z ∈ zs, p.entries[z].granted = 0) : (zs.foldl (placeZone s) p).sound := by
  induction zs generalizing p with
  | nil => exact hp
  | cons z zs ih =>
    obtain ⟨hz, hzs⟩ := List.nodup_cons.mp hzs
    refine ih hzs (placeZone_sound s hp (hnew z List.mem_cons_self)) fun y hy => ?_
    have hne : y ≠ z := fun e => hz (e ▸ hy)
    rw [placeZone_entry_other s p hne]
    exact hnew y (List.mem_cons_of_mem z hy)

/-- R74: every zone is placed once, so placement keeps sound a plan that has no slot yet. -/
theorem placeAll_sound (s : State) {p : Plan} (hp : p.sound) (hnew : ∀ z : ZoneId, p.entries[z].granted = 0) :
    (placeAll s p).sound :=
  placeZones_sound s (serviceOrder_nodup s p.frame) hp fun z _ => hnew z

/-- Placement leaves the frame number and the L of a plan. -/
theorem placeAll_isFor (s : State) (p : Plan) : (placeAll s p).frame = p.frame ∧ (placeAll s p).len = p.len := by
  have fold : ∀ (zs : List ZoneId) (q : Plan),
      (zs.foldl (placeZone s) q).frame = q.frame ∧ (zs.foldl (placeZone s) q).len = q.len := by
    intro zs
    induction zs with
    | nil => exact fun q => ⟨rfl, rfl⟩
    | cons z zs ih => exact fun q => ih (placeZone s q z)
  exact fold _ p

/-! ### What a plan drives (R64, R80) -/

/-- R64: an entry that holds a slot, as a reader reads it, is the plan's own and has the zone's present current
and group. -/
theorem readEntry_of_slot {s : State} {o : Option Plan} {z : ZoneId} {h : Nat}
    (hslot : h ∈ (s.readEntry o z).slots) : ∃ p, o = some p ∧ h ∈ (p.entries[z]).slots ∧
      (p.entries[z]).current = (s.zone z).cfg.current ∧ (p.entries[z]).group = (s.zone z).cfg.group := by
  cases o with
  | none => cases hslot
  | some p =>
    rw [readEntry_some] at hslot
    split at hslot
    · next hstands => exact ⟨p, rfl, hslot, hstands⟩
    · cases hslot

/-- R90: a zone is driven only on a slot that the governing plan holds for it as it stands. -/
theorem slot_of_drives {s : State} {frame : BitVec 32} {len h : Nat} {z : ZoneId}
    (hd : s.drives frame len h z = true) : ∃ p, s.governing frame len = some p ∧ h ∈ (p.entries[z]).slots ∧
      (p.entries[z]).current = (s.zone z).cfg.current ∧ (p.entries[z]).group = (s.zone z).cfg.group := by
  simp only [State.drives, Bool.and_eq_true] at hd
  obtain ⟨⟨-, hslot⟩, -⟩ := hd
  exact readEntry_of_slot (List.contains_iff_mem.mp hslot)

/-- R80: the driven currents are among those that the governing plan counts in its slot. -/
theorem driven_le_currentAt {s : State} {frame : BitVec 32} {len : Nat} {p : Plan}
    (hp : s.governing frame len = some p) (h : Nat) {drives : ZoneId → Bool} {pick : Entry → Bool}
    (hdrives : ∀ z, drives z = true → s.drives frame len h z = true ∧
      ((p.entries[z]).group = (s.zone z).cfg.group → pick p.entries[z] = true)) :
    (allZones.map fun z => if drives z then (s.zone z).cfg.current else 0).sum ≤ p.currentAt h pick := by
  refine List.sum_le_sum fun z _ => ?_
  change _ ≤ (p.entries[z]).currentAt h pick
  split
  · next hz =>
    obtain ⟨hdriven, hpick⟩ := hdrives z hz
    obtain ⟨q, hq, hslot, hcurrent, hgroup⟩ := slot_of_drives hdriven
    obtain rfl : p = q := Option.some.inj (hp.symm.trans hq)
    rw [entry_currentAt_of_mem hslot (hpick hgroup), hcurrent]
  · exact Nat.zero_le _

/-- R63: no slot of a sound plan lies beyond its frame. -/
theorem currentAt_of_beyond {p : Plan} (hp : p.sound) {h : Nat} (hh : p.len ≤ h) (pick : Entry → Bool) :
    p.currentAt h pick = 0 := by
  obtain ⟨-, hentries, -⟩ := hp
  refine currentAt_of_not_mem (fun z hslot => ?_) pick
  obtain ⟨-, hlt, -⟩ := hentries z
  exact absurd (hlt h hslot) (Nat.not_lt.mpr hh)

/-- R63: the currents that a sound plan counts in a slot are within its limits. -/
theorem currentAt_le_limits {p : Plan} (hp : p.sound) (h : Nat) :
    p.currentAt h (fun _ => true) ≤ p.limits.supply ∧
    ∀ g : GroupId, p.currentAt h (fun e => e.group == g) ≤ p.limits.group[g] := by
  rcases Nat.lt_or_ge h p.len with hh | hh
  · obtain ⟨-, -, hsums⟩ := hp
    obtain ⟨hs, hle, hgroups⟩ := hsums h hh
    refine ⟨hs ▸ hle, fun g => ?_⟩
    obtain ⟨hg, hgle⟩ := hgroups g
    exact hg ▸ hgle
  · simp only [currentAt_of_beyond hp hh, Nat.zero_le, implies_true, and_self]

/-- Settles O29: what is driven is counted in the plan's slot, and that is within its limits. -/
theorem drivenCurrentsStayWithinThePlansLimits : Obligations.DrivenCurrentsStayWithinThePlansLimits := by
  intro s frame len h
  refine ⟨fun p hp hgov => ?_, fun hnone z => ?_⟩
  · obtain ⟨hsupply, hgroup⟩ := currentAt_le_limits hp h
    refine ⟨(driven_le_currentAt hgov h fun z hz => ⟨hz, fun _ => rfl⟩).trans hsupply, fun g =>
      (driven_le_currentAt hgov h fun z hz => ?_).trans (hgroup g)⟩
    rw [Bool.and_eq_true] at hz
    obtain ⟨hdriven, hg⟩ := hz
    exact ⟨hdriven, fun e => by rw [e]; exact hg⟩
  · by_contra hd
    obtain ⟨p, hp, -⟩ := slot_of_drives (Bool.eq_true_of_not_eq_false hd)
    rw [hnone] at hp
    cases hp

end Sys2Proof.Machine
end

section
/-! SUPPORT. The plans stay sound: what the planner's commit and cut make of them at a boundary, and the commands
that leave them. Settles O7. -/

namespace Sys2Proof.Machine

/-! ### The planner alone (R62, R63, R65) -/

/-- R63, R84: the held plans are sound, and the curtailed tallies within their bound. -/
def Planner.sound (n : Planner) : Prop :=
  (∀ p, n.committed = some p → p.sound) ∧ (∀ p, n.building = some p → p.sound) ∧
  ∀ z : ZoneId, n.curtailed[z] ≤ max32

/-- R65: a plan is committed for this frame, and one is under construction for the next. -/
def Planner.holdsFor (n : Planner) (frame : BitVec 32) (len : Nat) : Prop :=
  (∃ p, n.committed = some p ∧ p.frame = frame ∧ p.len = len) ∧
  (∃ p, n.building = some p ∧ p.frame = frame + 1 ∧ p.len = len) ∧ n.summary.governs = true

/-- R62, R81: no plan is held. -/
def Planner.empty (n : Planner) : Prop :=
  n.committed = none ∧ n.building = none ∧ n.summary.governs = false

theorem planSound_iff (s : State) : s.planSound ↔ s.planner.sound ∧
    (s.mtu.state = .locked → s.planner.holdsFor s.mtu.frame s.mtu.len) ∧
    (s.mtu.state ≠ .locked → s.planner.empty) := by
  constructor
  · rintro ⟨hc, hb, hlocked, hnot, hgov, ht⟩
    refine ⟨⟨hc, hb, ht⟩, fun hl => ?_, fun hl => ?_⟩
    · obtain ⟨hcommitted, hbuilding⟩ := hlocked hl
      exact ⟨hcommitted, hbuilding, hgov.mpr hl⟩
    · obtain ⟨hcommitted, hbuilding⟩ := hnot hl
      exact ⟨hcommitted, hbuilding, Bool.eq_false_of_not_eq_true fun e => hl (hgov.mp e)⟩
  · rintro ⟨⟨hc, hb, ht⟩, hlocked, hnot⟩
    refine ⟨hc, hb, fun hl => ?_, fun hl => ?_, ⟨fun hgov => ?_, fun hl => ?_⟩, ht⟩
    · obtain ⟨hcommitted, hbuilding, -⟩ := hlocked hl
      exact ⟨hcommitted, hbuilding⟩
    · obtain ⟨hcommitted, hbuilding, -⟩ := hnot hl
      exact ⟨hcommitted, hbuilding⟩
    · by_contra hl
      obtain ⟨-, -, hfalse⟩ := hnot hl
      rw [hgov] at hfalse
      cases hfalse
    · obtain ⟨-, -, hgov⟩ := hlocked hl
      exact hgov

/-- The plans stay sound where neither the planner nor what it reads of the mains timing unit changes. -/
theorem planSound_of_eq {s t : State} (h : s.planSound) (hp : t.planner = s.planner)
    (hst : t.mtu.state = .locked ↔ s.mtu.state = .locked)
    (hframe : t.mtu.state = .locked → t.mtu.frame = s.mtu.frame ∧ t.mtu.len = s.mtu.len) : t.planSound := by
  rw [planSound_iff] at h ⊢
  obtain ⟨hsound, hlocked, hnot⟩ := h
  rw [hp]
  refine ⟨hsound, fun hl => ?_, fun hl => hnot fun e => hl (hst.mpr e)⟩
  obtain ⟨hf, hlen⟩ := hframe hl
  rw [hf, hlen]
  exact hlocked (hst.mp hl)

theorem planSound_of_same {s t : State} (h : s.planSound) (hm : t.mtu = s.mtu) (hp : t.planner = s.planner) :
    t.planSound :=
  planSound_of_eq h hp (by rw [hm]) fun _ => by rw [hm]; exact ⟨rfl, rfl⟩

/-! ### The plans of a boundary (R64 to R72) -/

theorem emptyPlan_sound (s : State) (frame : BitVec 32) (len : Nat) : (s.emptyPlan frame len).sound := by
  refine sound_of_no_slots rfl fun z => ?_
  have hentry : (s.emptyPlan frame len).entries[z] = Entry.empty (s.zone z).cfg := by simp [State.emptyPlan]
  rw [hentry]
  exact ⟨rfl, rfl, Nat.zero_le _, fun _ => rfl⟩

theorem committedAt_sound {s : State} (h : s.planner.sound) (frame : BitVec 32) (len : Nat) (discard : Bool) :
    (s.committedAt frame len discard).sound := by
  obtain ⟨-, hbuilding, -⟩ := h
  rcases committedAt_cases s frame len discard with e | ⟨-, e⟩
  · exact e ▸ emptyPlan_sound s frame len
  · obtain ⟨hp, -⟩ := planIfFor_eq_some_iff.mp e
    exact hbuilding _ hp

/-- R69: what the cut may fix for a zone of a frame of length `len`: no request without a source, and none
above L. -/
def Choice.within (c : Choice) (len : Nat) : Prop :=
  c.request ≤ len ∧ (c.source = .none → c.request = 0)

theorem none_within (len : Nat) : Choice.none.within len := ⟨Nat.zero_le _, fun _ => rfl⟩

theorem orderRequest_le (s : State) (z : ZoneId) (len : Nat) (taken : Bool) (o : Order) :
    s.orderRequest z len taken o ≤ len := by
  unfold State.orderRequest
  split
  · exact Nat.zero_le _
  · exact (Nat.min_le_right _ _).trans (Nat.min_le_left _ _)

theorem chooseOrder_within (s : State) (z : ZoneId) (len : Nat) (taken : Bool) (q : List Order) :
    (s.chooseOrder z len taken q).within len := by
  have order : ∀ (o : Order) (second : Bool),
      Choice.within { source := .order o.handle, request := s.orderRequest z len taken o, second } len :=
    fun o _ => ⟨orderRequest_le s z len taken o, nofun⟩
  unfold State.chooseOrder
  split
  · exact none_within len
  · dsimp only
    split
    · exact order _ _
    · split
      · exact none_within len
      · split
        · exact order _ _
        · exact none_within len

theorem choose_within (s : State) (len : Nat) (taken : Bool) (z : ZoneId) : (s.choose len taken z).within len := by
  unfold State.choose
  split
  · split
    · exact ⟨Nat.min_le_right _ _, nofun⟩
    · exact chooseOrder_within s z len taken _
    · exact none_within len
  · exact none_within len

theorem cutPlan_entry (s : State) (frame : BitVec 32) (len : Nat) (taken : Bool) (z : ZoneId) :
    (s.cutPlan frame len taken).entries[z] = Entry.ofChoice (s.zone z).cfg (s.choose len taken z) := by
  simp [State.cutPlan]

theorem cutPlan_sound (s : State) (frame : BitVec 32) (len : Nat) (taken : Bool) :
    (s.cutPlan frame len taken).sound := by
  refine sound_of_no_slots rfl fun z => ?_
  rw [cutPlan_entry]
  exact ⟨rfl, rfl, choose_within s len taken z⟩

/-- R66, R67, R76: the plan built at a cut is sound. -/
theorem placeAll_cutPlan_sound (s : State) (frame : BitVec 32) (len : Nat) (taken : Bool) :
    (placeAll s (s.cutPlan frame len taken)).sound :=
  placeAll_sound s (cutPlan_sound s frame len taken) fun z => by rw [cutPlan_entry]; rfl

theorem tallyAfter_le {s : State} (p : Plan) {z : ZoneId} (h : s.planner.curtailed[z] ≤ max32) :
    s.tallyAfter p z ≤ max32 := by
  unfold State.tallyAfter
  dsimp only
  split
  · exact satAdd_le _ _ _
  · exact h

/-! ### The crossings (R65, R81) -/

section Crossing

variable {c : Crossing} {s : State}

theorem plannerAtBoundary_sound (h : s.planner.sound) : (plannerAtBoundary c s).planner.sound := by
  by_cases hb : c.boundary = true
  · rw [plannerAtBoundary_eq hb, cut_eq, commit_eq]
    refine ⟨fun p hp => ?_, fun p hp => ?_, fun z => ?_⟩
    · exact Option.some.inj hp ▸ committedAt_sound h _ _ _
    · exact Option.some.inj hp ▸ placeAll_cutPlan_sound _ _ _ _
    · obtain ⟨-, -, htally⟩ := h
      simpa using tallyAfter_le (s.committedAt c.frame c.len (c.lChanged || c.lock)) (htally z)
  · rw [plannerAtBoundary, if_neg hb]
    exact h

/-- R65: after a boundary a plan is held for the frame that it begins, and one for the next. -/
theorem plannerAtBoundary_holdsFor (hb : c.boundary = true) :
    (plannerAtBoundary c s).planner.holdsFor c.frame c.len := by
  obtain ⟨-, hframe, hlen⟩ := planIfFor_eq_some_iff.mp
    (committedAt_isFor s c.frame c.len (c.lChanged || c.lock))
  rw [plannerAtBoundary_eq hb, cut_eq, commit_eq]
  exact ⟨⟨_, rfl, hframe, hlen⟩, ⟨_, rfl, placeAll_isFor _ _⟩, rfl⟩

theorem handOn_planner_sound (order : List Taker) (h : s.planner.sound) : (handOn order c s).planner.sound := by
  refine handOn_induction (P := fun u => u.planner.sound) (fun k u hu => ?_) order h
  by_cases hk : k = .planner
  · exact hk ▸ plannerAtBoundary_sound hu
  · rw [takeCrossing_planner k u hk]
    exact hu

theorem handOn_planner_holdsFor (order : List Taker) (hb : c.boundary = true) :
    (handOn order c s).planner.holdsFor c.frame c.len := by
  refine handOn_establishes (P := fun _ => True) (Q := fun u => u.planner.holdsFor c.frame c.len) .planner
    (fun _ _ _ => trivial) (fun _ _ => plannerAtBoundary_holdsFor hb) (fun k u hk hu => ?_) order trivial
  rw [takeCrossing_planner k u hk]
  exact hu

/-- R65: a crossing within a frame leaves the planner. -/
theorem handOn_planner_of_no_boundary (order : List Taker) (hb : c.boundary = false) :
    (handOn order c s).planner = s.planner := by
  refine handOn_induction (P := fun u => u.planner = s.planner) (fun k u hu => ?_) order rfl
  by_cases hk : k = .planner
  · subst hk
    rw [takeCrossing, plannerAtBoundary, if_neg (by simp [hb])]
    exact hu
  · rw [takeCrossing_planner k u hk]
    exact hu

/-- R65: a crossing in LOCKED moves the plans on with the frame, or leaves both. -/
theorem crossLocked_keeps_planSound (order : List Taker) (ref : Nat) (syn : Bool)
    (hl : s.mtu.state = .locked) (h : s.planSound) : (crossLocked order ref syn s).planSound := by
  rw [planSound_iff] at h ⊢
  obtain ⟨hsound, hholds, -⟩ := h
  have hstate : s.mtu.advance.state = .locked := by
    rw [advance_eq]
    exact hl
  rw [crossLocked_mtu]
  refine ⟨handOn_planner_sound order hsound, fun _ => ?_, fun hn => absurd hstate hn⟩
  by_cases hh : s.mtu.h + 1 < s.mtu.len
  · have hplanner : (crossLocked order ref syn s).planner = s.planner :=
      handOn_planner_of_no_boundary order (by simp [crossing_eq, hh])
    rw [hplanner, advance_eq]
    simpa only [hh, if_true] using hholds hl
  · exact handOn_planner_holdsFor order (by simp [crossing_eq, hh])

/-- R65: the lock crossing begins the first frame. -/
theorem lockMains_keeps_planSound (order : List Taker) (h : s.planSound) : (lockMains order s).planSound := by
  rw [planSound_iff] at h ⊢
  obtain ⟨hsound, -⟩ := h
  rw [lockMains_mtu]
  exact ⟨handOn_planner_sound order hsound, fun _ => handOn_planner_holdsFor order rfl, fun hn => absurd rfl hn⟩

/-- R81: a mains loss discards the plans. -/
theorem loseMains_keeps_planSound (h : s.planSound) : (loseMains s).planSound := by
  rw [planSound_iff] at h ⊢
  obtain ⟨⟨-, -, htally⟩, -⟩ := h
  rw [loseMains_eq]
  exact ⟨⟨nofun, nofun, htally⟩, nofun, fun _ => ⟨rfl, rfl, rfl⟩⟩

end Crossing

/-! ### Requests (R13, R79, R100) -/

theorem answerSetFrame_planner (l : Byte) (s : State) : (answerSetFrame l s).state.planner = s.planner := by
  unfold answerSetFrame
  split
  · rfl
  · split <;> rfl

theorem answerConfigZone_planner (z : ZoneId) (c : ZoneConfig) (s : State) :
    (answerConfigZone z c s).state.planner = s.planner := by
  unfold answerConfigZone
  split <;> simp [State.grant, State.deny]

theorem answerEnableZone_planner (z : ZoneId) (s : State) :
    (answerEnableZone z s).state.planner = s.planner := by
  unfold answerEnableZone
  split
  · split <;> simp [State.grant, State.deny]
  · rfl

theorem answerDisableZone_planner (z : ZoneId) (s : State) :
    (answerDisableZone z s).state.planner = s.planner := by
  unfold answerDisableZone
  split <;> simp [State.grant, State.deny]

theorem answerSetDemand_planner (z : ZoneId) (d : Nat) (s : State) :
    (answerSetDemand z d s).state.planner = s.planner := by
  have demanded : (s.setDemand z d).planner = s.planner := by
    unfold State.setDemand
    split <;> simp
  unfold answerSetDemand
  split <;> simp [State.grantDemand, State.grant, State.deny, demanded]

theorem answerClearZone_planner (z : ZoneId) (s : State) :
    (answerClearZone z s).state.planner = s.planner := by
  rw [answerClearZone_eq]
  split
  · simp [State.grant]
  · split <;> rfl

theorem answerQueueOrder_planner (z : ZoneId) (tag : Half) (total cap : Nat) (s : State) :
    (answerQueueOrder z tag total cap s).state.planner = s.planner := by
  have appended : (s.appendOrder z tag total cap).planner = s.planner := by
    unfold State.appendOrder State.orderAccepted
    dsimp only
    split <;> simp
  unfold answerQueueOrder
  (repeat' split) <;> simp [State.grant, State.deny, appended]

theorem answerAbortOrder_planner (z : ZoneId) (tag : Half) (s : State) :
    (answerAbortOrder z tag s).state.planner = s.planner := by
  unfold answerAbortOrder abortBehind
  (repeat' split) <;> simp [State.grant, State.deny]

theorem answerOpenGroup_planner (g : GroupId) (s : State) :
    (answerOpenGroup g s).state.planner = s.planner := by
  unfold answerOpenGroup
  split <;> simp [State.grantGroup, State.grant, State.deny]

/-- Every request but SET_LIMITS and CLEAR_TALLY leaves the planner. -/
theorem answer_planner (r : Request) (s : State) (hl : ∀ p a b c d, r ≠ .setLimits p a b c d)
    (hc : ∀ x, r ≠ .clearTally x) : (answer r s).state.planner = s.planner := by
  cases r with
  | setLimits p a b c d => exact absurd rfl (hl p a b c d)
  | clearTally x => exact absurd rfl (hc x)
  | setFrame => exact answerSetFrame_planner _ s
  | configZone => exact answerConfigZone_planner _ _ s
  | enableZone => exact answerEnableZone_planner _ s
  | disableZone => exact answerDisableZone_planner _ s
  | setDemand => exact answerSetDemand_planner _ _ s
  | clearZone => exact answerClearZone_planner _ s
  | queueOrder => exact answerQueueOrder_planner _ _ _ _ s
  | abortOrder => exact answerAbortOrder_planner _ _ s
  | openGroup => exact answerOpenGroup_planner _ s
  | closeGroup g =>
    rcases answerCloseGroup_cases (groupNumber g) s with e | ⟨-, e⟩
    · exact (congrArg State.planner e :)
    · exact (congrArg State.planner e :)
  | ackTrip g =>
    rcases answerAckTrip_cases (groupNumber g) s with e | ⟨-, e⟩
    · exact (congrArg State.planner e :)
    · exact (congrArg State.planner e :)
  | tripAll => simp [answer, answerTripAll, State.grant]
  | readTripRecord n => exact (congrArg State.planner (answerReadTripRecord_state n s) :)
  | releaseTripRecord n =>
    obtain ⟨t, e⟩ := answerReleaseTripRecord_state n s
    exact (congrArg State.planner e :)
  | _ => rfl

/-- R13: SET_FRAME writes no L in force while the mains is LOCKED. -/
theorem answerSetFrame_keeps_planSound {s : State} (l : Byte) (h : s.planSound) :
    (answerSetFrame l s).state.planSound := by
  have hplanner := answerSetFrame_planner l s
  rcases answerSetFrame_mtu l s with hm | hm
  · exact planSound_of_same h hm hplanner
  · refine planSound_of_eq h hplanner (by rw [hm]) fun hl => ?_
    rw [hm] at hl ⊢
    exact ⟨rfl, if_pos hl⟩

/-- R84, R100: the plans stay sound where only the tallies change, within their bound. -/
theorem planSound_of_tallies {s t : State} {v : Vector Nat 24} (h : s.planSound) (hm : t.mtu = s.mtu)
    (hp : t.planner = { s.planner with curtailed := v }) (hv : ∀ z : ZoneId, v[z] ≤ max32) : t.planSound := by
  rw [planSound_iff] at h ⊢
  obtain ⟨⟨hc, hb, -⟩, hplans⟩ := h
  rw [hm, hp]
  exact ⟨⟨hc, hb, hv⟩, hplans⟩

theorem clearSelected_le {v : Vector Nat 24} {bound : Nat} (hv : ∀ z : ZoneId, v[z] ≤ bound) (x : Byte)
    (z : ZoneId) : (clearSelected x v)[z] ≤ bound := by
  have hcleared : (clearSelected x v)[z] = if selects x z then 0 else v[z] := by simp [clearSelected]
  rw [hcleared]
  split
  · exact Nat.zero_le _
  · exact hv z

/-- R100: CLEAR_TALLY zeroes tallies. -/
theorem answerClearTally_keeps_planSound {s : State} (x : Byte) (h : s.planSound) :
    (answerClearTally x s).state.planSound := by
  have htally : ∀ z : ZoneId, s.planner.curtailed[z] ≤ max32 := by
    obtain ⟨-, -, -, -, -, htally⟩ := h
    exact htally
  exact planSound_of_tallies h (by simp only [answerClearTally, State.grant])
    (by simp only [answerClearTally, State.grant]) (clearSelected_le htally x)

theorem answer_keeps_planSound {s : State} (r : Request) (h : s.planSound) : (answer r s).state.planSound := by
  cases r with
  | setFrame l => exact answerSetFrame_keeps_planSound l h
  | setLimits => exact h
  | clearTally x => exact answerClearTally_keeps_planSound x h
  | _ => exact planSound_of_same h (answer_mtu _ s nofun) (answer_planner _ s nofun nofun)

/-! ### Every command -/

/-- R62: the reset values. -/
theorem blank_planSound (now : Nat) (b : Straps) (raw : Vector Bool 4) (stop : Bool) (store : TripStore)
    (pending : List Instr) : (State.blank now b raw stop store pending).planSound := by
  have htally : ∀ z : ZoneId, Planner.reset.curtailed[z] = 0 := fun z => by simp [Planner.reset]
  exact (planSound_iff _).mpr
    ⟨⟨nofun, nofun, fun z => (htally z).trans_le (Nat.zero_le _)⟩, nofun, fun _ => ⟨rfl, rfl, rfl⟩⟩

/-- R62, R63, R65, R81: what each part of a command keeps of the plans. -/
theorem planSound_keptByParts : KeptByParts State.planSound where
  frame := fun ⟨hm, _, _, hp, _⟩ h => planSound_of_same h hm hp
  power := fun _ _ _ _ _ => blank_planSound _ _ _ _ _ _
  pin := fun _ _ _ _ _ _ => blank_planSound _ _ _ _ _ _
  retime := fun _ hst hlen hframe _ h => planSound_of_eq h rfl hst fun _ => ⟨hframe, hlen⟩
  lock := fun order _ _ _ => lockMains_keeps_planSound order
  cross := fun order ref syn _ hl => crossLocked_keeps_planSound order ref syn hl
  lose := fun _ => loseMains_keeps_planSound
  point := fun cs first hl h => planSound_of_eq h (by simp) (by rw [midPoint_mtu]) fun _ => by
    rw [midPoint_mtu]; exact ⟨rfl, rfl⟩
  reading := fun _ h => planSound_of_same h (by simp) (by simp)
  raw := fun line _ h => planSound_of_same h (by simp) (by cases line <;> rfl)
  aux := fun _ h => planSound_of_same h (by simp) (by simp)
  stop := fun h => planSound_of_same h (by simp) (by simp)
  closeTimer := fun _ _ h => planSound_of_same h (by simp) (by simp)
  releaseTimer := fun _ _ h => planSound_of_same h (by simp) (by simp)
  openTimer := fun _ _ h => planSound_of_same h (by simp) (by unfold openExpired; split <;> simp)
  verifyTimer := fun _ _ h => planSound_of_same h (by simp) (by unfold verifyExpired; split <;> simp)
  stuckTimer := fun _ _ h => planSound_of_same h (by simp) (by simp)
  answered := fun r _ _ => answer_keeps_planSound r

/-- Settles O7: every step keeps what the parts of its command keep. -/
theorem stepKeepsThePlansSound : Obligations.StepKeepsThePlansSound := by
  intro s t hs h
  obtain ⟨hm, -, hplan, -⟩ := hs
  exact planSound_keptByParts.step hm hplan h

end Sys2Proof.Machine
end

section
/-! SUPPORT. The requests that write settings: what each writes, and its reply. Settles O50. -/

namespace Sys2Proof.Machine

/-- R170: a subscription mask as a byte keeps its six bits and lies in its range. -/
theorem mask_byte_extract (m : BitVec 6) : (m.zeroExtend 8).extractLsb' 0 6 = m := by
  apply BitVec.eq_of_getLsbD_eq
  intro i hi
  simp only [BitVec.getLsbD_extractLsb', BitVec.getLsbD_setWidth, Nat.zero_add, hi, decide_true, Bool.true_and,
    Nat.lt_trans hi (by decide : 6 < 8)]

theorem mask_byte_le (m : BitVec 6) : (m.zeroExtend 8).toNat ≤ 63 := by
  have := m.isLt
  simp only [BitVec.toNat_setWidth]
  omega

/-- R79: five limits as they stand in a payload. -/
theorem limits_bytes_of_halves (p a b c d : Half) :
    Limits.bytes { supply := p.toNat, group := #v[a.toNat, b.toNat, c.toNat, d.toNat] } =
      Half.bytes p ++ Half.bytes a ++ Half.bytes b ++ Half.bytes c ++ Half.bytes d := by
  have hgroups : allGroups = [0, 1, 2, 3] := by decide
  simp only [Limits.bytes, hgroups, half_bytes_eq, List.flatMap_cons, List.flatMap_nil, List.append_nil,
    List.append_assoc]
  rfl

/-- Settles O50: each request is granted, in its range, with its settings written. -/
theorem settingRequestsWriteTheirSettings : Obligations.SettingRequestsWriteTheirSettings := by
  intro hd s h s1
  have reply : ∀ {i : Instr} {r : Request} {t : State} {type : Byte} {fields : List Byte},
      i.requestOf = some (hd, r) → r.typeCode + 0x40 = type → r.inRange s.mtu.len = true →
      answer r s1 = t.grant fields → exec i s = .next (t.replying hd type .ok fields) :=
    fun hi ht hr ha => exec_of_answer hi ht h hr ha nofun
  refine ⟨fun i h1 h2 => reply rfl rfl ?_ rfl, fun m => reply rfl rfl ?_ ?_,
    fun p a b c d hp ha hb hc hd' => reply rfl rfl ?_ ?_, fun l o p m hl ho hp hm => reply rfl rfl ?_ rfl,
    fun c o v hc1 hc2 ho1 ho2 hv1 hv2 => reply rfl rfl ?_ rfl⟩
  · exact (within_iff _ _ _).mpr ⟨h1, h2⟩
  · exact (within_iff _ _ _).mpr ⟨Nat.zero_le _, mask_byte_le m⟩
  · simp only [answer, answerSetSubscription, mask_byte_extract]
  · simp only [Request.inRange, Bool.and_eq_true, within_iff, Nat.zero_le, hp, ha, hb, hc, hd', and_self]
  · have hlimits : s1.planner.limits = s.planner.limits := by simp only [received_keeps, s1]
    rw [answer, answerSetLimits, limits_bytes_of_halves, hlimits, Limits.bytes, ← List.append_assoc]
  · have hm' : m.toNat ≤ 255 := Nat.le_of_lt_succ m.isLt
    simp only [Request.inRange, Bool.and_eq_true, within_iff, Nat.zero_le, hl, ho, hp, hm, hm', and_self]
  · simp only [Request.inRange, Bool.and_eq_true, within_iff, hc1, hc2, ho1, ho2, hv1, hv2, and_self]

end Sys2Proof.Machine
end

section
/-! SUPPORT. What leaves the drive lines: every request leaves them, so every byte and every request frame does, and
the happenings that make no crossing. Settles O26. -/

namespace Sys2Proof.Machine

/-! ### The drive lines and their records (R88, R93) -/

/-- R93: the drive lines and the two drive records agree; the fired tallies may differ (R100). -/
def State.sameDrive (t s : State) : Prop :=
  t.switch.lines = s.switch.lines ∧ t.switch.present = s.switch.present ∧ t.switch.previous = s.switch.previous

theorem sameDrive_of_switch {s t : State} (h : t.switch = s.switch) : t.sameDrive s := by
  rw [State.sameDrive, h]
  exact ⟨rfl, rfl, rfl⟩

theorem State.sameDrive.trans {u t s : State} (h₂ : u.sameDrive t) (h₁ : t.sameDrive s) : u.sameDrive s := by
  obtain ⟨hlines₂, hpresent₂, hprevious₂⟩ := h₂
  obtain ⟨hlines₁, hpresent₁, hprevious₁⟩ := h₁
  exact ⟨hlines₂.trans hlines₁, hpresent₂.trans hpresent₁, hprevious₂.trans hprevious₁⟩

theorem State.sameBlocks.switch {s t : State} (h : t.sameBlocks s) : t.switch = s.switch := by
  obtain ⟨-, -, -, -, hswitch, -⟩ := h
  exact hswitch

theorem State.sameBlocks.trans {u t s : State} (h₂ : u.sameBlocks t) (h₁ : t.sameBlocks s) : u.sameBlocks s := by
  obtain ⟨hm, hz, ho, hp, hw, hu, hg, hst⟩ := h₁
  rwa [State.sameBlocks, hm, hz, ho, hp, hw, hu, hg, hst] at h₂

theorem sameBlocks_refl (s : State) : s.sameBlocks s := ⟨rfl, rfl, rfl, rfl, rfl, rfl, rfl, rfl⟩

/-! ### Requests (R93, R100) -/

@[simp] theorem setDemand_switch (s : State) (z : ZoneId) (d : Nat) : (s.setDemand z d).switch = s.switch := by
  unfold State.setDemand
  split <;> simp

@[simp] theorem appendOrder_switch (s : State) (z : ZoneId) (tag : Half) (total cap : Nat) :
    (s.appendOrder z tag total cap).switch = s.switch := by
  simp [appendOrder_eq]

/-- Every request but CLEAR_TALLY leaves the switch stage. -/
theorem answer_switch (r : Request) (s : State) (hc : ∀ x, r ≠ .clearTally x) :
    (answer r s).state.switch = s.switch := by
  cases r with
  | clearTally x => exact absurd rfl (hc x)
  | closeGroup g =>
    rcases answerCloseGroup_cases (groupNumber g) s with e | ⟨-, e⟩
    · exact (congrArg State.switch e :)
    · exact (congrArg State.switch e :)
  | ackTrip g =>
    rcases answerAckTrip_cases (groupNumber g) s with e | ⟨-, e⟩
    · exact (congrArg State.switch e :)
    · exact (congrArg State.switch e :)
  | readTripRecord n => exact (congrArg State.switch (answerReadTripRecord_state n s) :)
  | releaseTripRecord n =>
    obtain ⟨t, e⟩ := answerReleaseTripRecord_state n s
    exact (congrArg State.switch e :)
  | setFrame | configZone | enableZone | disableZone | setDemand | clearZone | queueOrder | abortOrder
  | openGroup | tripAll =>
    simp only [answer, answerSetFrame, answerConfigZone, answerEnableZone, answerDisableZone, answerSetDemand,
      answerClearZone, answerQueueOrder, answerAbortOrder, abortBehind, answerOpenGroup, answerTripAll]
    (repeat' split) <;> simp [State.grant, State.deny, State.grantDemand, State.grantGroup]
  | _ => rfl

/-- R100: CLEAR_TALLY leaves the drive lines and records. -/
theorem answerClearTally_sameDrive (x : Byte) (s : State) : (answerClearTally x s).state.sameDrive s := by
  simp only [State.sameDrive, answerClearTally, State.grant, and_self]

/-- R93: no request changes a drive line or a drive record. -/
theorem answer_sameDrive (r : Request) (s : State) : (answer r s).state.sameDrive s := by
  cases r with
  | clearTally x => exact answerClearTally_sameDrive x s
  | _ => exact sameDrive_of_switch (answer_switch _ s nofun)

/-! ### Request frames and bytes (R176 to R181) -/

/-- What a frame or a byte can do to the power path: nothing, or one request's answer. -/
def State.answeredFrom (t s : State) : Prop :=
  t.sameBlocks s ∨ ∃ r u, State.sameBlocks u s ∧ t.sameBlocks (answer r u).state

theorem State.answeredFrom.before {u t s : State} (h : u.answeredFrom t) (hs : t.sameBlocks s) :
    u.answeredFrom s := by
  rcases h with h | ⟨r, v, hv, h⟩
  · exact .inl (h.trans hs)
  · exact .inr ⟨r, v, hv.trans hs, h⟩

theorem State.answeredFrom.after {u t s : State} (h : t.answeredFrom s) (hu : u.sameBlocks t) :
    u.answeredFrom s := by
  rcases h with h | ⟨r, v, hv, h⟩
  · exact .inl (hu.trans h)
  · exact .inr ⟨r, v, hv, hu.trans h⟩

theorem State.answeredFrom.sameDrive {t s : State} (h : t.answeredFrom s) : t.sameDrive s := by
  rcases h with h | ⟨r, u, hu, h⟩
  · exact sameDrive_of_switch h.switch
  · exact (sameDrive_of_switch h.switch).trans ((answer_sameDrive r u).trans (sameDrive_of_switch hu.switch))

theorem execute_answeredFrom (num : BitVec 4) (type : Byte) (p : Parsed) (s : State) :
    (execute num type p s).answeredFrom s := by
  unfold execute
  split
  · exact .inl (storeReply_sameBlocks _ _ _ _ s)
  · split
    · exact .inr ⟨_, s, sameBlocks_refl s, storeReply_sameBlocks _ _ _ _ _⟩
    · exact .inl (storeReply_sameBlocks _ _ _ _ s)

theorem serveFrame_answeredFrom (num : BitVec 4) (ack type : Byte) (p : Parsed) (s : State) :
    (serveFrame num ack type p s).answeredFrom s := by
  have hack := (applyAck_sameBlocks ack (s.count _)).trans
    (count_sameBlocks s fun c => { c with framesReceived := bump c.framesReceived })
  unfold serveFrame handleRequest
  refine .after (.before ?_ hack) (txChoose_sameBlocks _)
  split
  · exact .inl (count_sameBlocks _ _)
  · split
    · exact .inl (replay_sameBlocks _)
    · exact execute_answeredFrom num type p _

theorem frameComplete_answeredFrom (bytes : List Byte) (s : State) : (frameComplete bytes s).answeredFrom s := by
  unfold frameComplete validFrame
  split
  · split
    · exact serveFrame_answeredFrom _ _ _ _ s
    · exact .inl (count_sameBlocks s _)
  · exact .inl (count_sameBlocks s _)

theorem goodByte_answeredFrom (b : Byte) (s : State) : (goodByte b s).answeredFrom s := by
  unfold goodByte
  dsimp only
  split
  · split
    · exact .inl (setRx_sameBlocks s _)
    · exact .inl (sameBlocks_refl s)
  · split
    · exact .inl (setRx_sameBlocks s _)
    · exact .inl ((count_sameBlocks _ _).trans (setRx_sameBlocks s _))
  · exact .inl (setRx_sameBlocks s _)
  · split
    · exact (frameComplete_answeredFrom _ _).before (setRx_sameBlocks s _)
    · exact .inl (setRx_sameBlocks s _)

theorem byteAt_answeredFrom (t : Nat) (b : Byte) (ok : Bool) (s : State) : (byteAt t b ok s).answeredFrom s := by
  have received : ∀ u : State, (receiveByte b ok u).answeredFrom u := by
    intro u
    unfold receiveByte
    split
    · exact goodByte_answeredFrom b u
    · split
      · exact .inl (sameBlocks_refl u)
      · exact .inl (abandonFraming_sameBlocks u)
  unfold byteAt
  split
  · exact (received _).before ((atTime_sameBlocks _ t).trans (gapExpiry_sameBlocks s))
  · exact (received _).before (atTime_sameBlocks s t)

/-! ### Happenings that make no crossing (R93) -/

@[simp] theorem openExpired_switch (g : GroupId) (s : State) : (openExpired g s).switch = s.switch := by
  unfold openExpired
  split <;> simp

@[simp] theorem verifyExpired_switch (g : GroupId) (s : State) : (verifyExpired g s).switch = s.switch := by
  unfold verifyExpired
  split <;> simp

@[simp] theorem rawChange_switch (line : RawLine) (level : Bool) (s : State) :
    (rawChange line level s).switch = s.switch := by
  cases line <;> simp [rawChange]

/-- R93: a command that neither resets the part nor can make or lose a crossing leaves the drive lines. -/
theorem exec_sameDrive {i : Instr} {s t : State} (h : exec i s = .next t)
    (hpower : ∀ time straps, i ≠ .powerOn time straps) (hpin : ∀ time straps, i ≠ .pinReset time straps)
    (hedge : ∀ time order, i ≠ .zxEdge time order) (hwindow : ∀ order, i ≠ .windowExpiry order) :
    t.sameDrive s := by
  have request : ∀ {hd : Header} {r : Request}, i.requestOf = some (hd, r) → t.sameDrive s := by
    intro hd r hreq
    rw [exec_of_requestOf s hreq] at h
    cases h
    exact ((serveFrame_answeredFrom _ _ _ _ _).before (atTime_sameBlocks s hd.time)).sameDrive
  cases i with
  | powerOn time straps => exact absurd rfl (hpower time straps)
  | pinReset time straps => exact absurd rfl (hpin time straps)
  | zxEdge time order => exact absurd rfl (hedge time order)
  | windowExpiry order => exact absurd rfl (hwindow order)
  | midHalfCyclePoint =>
    cases h
    refine sameDrive_of_switch ?_
    split
    · split <;> simp
    · rfl
  | auxChange | stopChange =>
    cases h
    refine sameDrive_of_switch ?_
    split <;> simp
  | closeTimerExpiry g | releaseDeadlineExpiry g | openTimerExpiry g | verifyTimerExpiry g
  | stuckContactTimerExpiry g =>
    cases h
    exact sameDrive_of_switch (onExpiry_keeps State.switch g _ (fun u => by simp) (fun _ _ => rfl) s)
  | isenseReading | rawInputChange =>
    cases h
    exact sameDrive_of_switch (by simp)
  | rxByte time byte ok =>
    cases h
    exact (byteAt_answeredFrom time byte ok s).sameDrive
  | byteGapTimeout =>
    cases h
    exact sameDrive_of_switch (gapExpiry_sameBlocks s).switch
  | txFrameEnd time =>
    cases h
    exact sameDrive_of_switch ((frameEnds_sameBlocks _).trans (atTime_sameBlocks s time)).switch
  | retransmitTimerExpiry =>
    cases h
    exact sameDrive_of_switch (retransmitExpiry_sameBlocks s).switch
  | _ => exact request rfl

/-- Settles O26: `exec_sameDrive`, as every command answers a next state. -/
theorem driveLinesChangeOnlyAtCrossingsLossAndReset : Obligations.DriveLinesChangeOnlyAtCrossingsLossAndReset := by
  intro i s
  obtain ⟨t, ht⟩ : ∃ t, exec i s = .next t := by cases i <;> exact ⟨_, rfl⟩
  exact ⟨t, ht, exec_sameDrive ht⟩

end Sys2Proof.Machine
end

section
/-! SUPPORT. The drive law: the switch stage's part of a crossing, the plan that it reads in LOCKED, and the crossing
that it takes before the other blocks. Settles O25. -/

namespace Sys2Proof.Machine

/-! ### The drive law (R89 to R91) -/

/-- R91, Table 5-2: the match of a plan's source. -/
theorem sourceMatches_iff (s : State) (z : ZoneId) (src : Source) :
    s.sourceMatches z src = true ↔ s.wantsSource z src := by
  have firable : ∀ o : Order, o.firable = true ↔ o.state = .planned ∨ o.state = .active := by
    intro o
    unfold Order.firable
    cases o.state <;> simp
  unfold State.sourceMatches State.wantsSource
  cases src with
  | none => simp
  | continuous => simp
  | order h =>
    cases s.queue z with
    | nil => simp
    | cons o rest => simp [firable, @eq_comm _ o.handle]

/-- R90: a zone is driven exactly when its group is CLOSED, the governing plan holds it in the slot and stands, and
its source is what the zone wants. -/
theorem drives_iff {s : State} (hl : s.mtu.state = .locked) (frame : BitVec 32) (len h : Nat) (z : ZoneId) :
    s.drives frame len h z = true ↔ (s.groupOf z).state = .closed ∧ ∃ p, s.governing frame len = some p ∧
      (p.entries[z]).current = (s.zone z).cfg.current ∧ (p.entries[z]).group = (s.zone z).cfg.group ∧
      h ∈ (p.entries[z]).slots ∧ s.wantsSource z (p.entries[z]).source := by
  have hlocked : s.isLocked = true := by simp [State.isLocked, hl]
  simp only [State.drives, hlocked, Bool.true_and, Bool.and_eq_true, beq_iff_eq, List.contains_iff_mem,
    sourceMatches_iff]
  constructor
  · rintro ⟨⟨hclosed, hslot⟩, hwants⟩
    obtain ⟨p, hp, hmem, hcurrent, hgroup⟩ := readEntry_of_slot hslot
    rw [hp, readEntry_some, if_pos ⟨hcurrent, hgroup⟩] at hwants
    exact ⟨hclosed, p, hp, hcurrent, hgroup, hmem, hwants⟩
  · rintro ⟨hclosed, p, hp, hcurrent, hgroup, hmem, hwants⟩
    rw [hp, readEntry_some, if_pos ⟨hcurrent, hgroup⟩]
    exact ⟨⟨hclosed, hmem⟩, hwants⟩

/-- R64, R65: in LOCKED, before the planner takes the crossing, the plan that governs the half-cycle to come. -/
theorem governing_crossing {s : State} (h : s.planSound) (hl : s.mtu.state = .locked) (syn : Bool) :
    s.governing (s.mtu.crossing syn).frame (s.mtu.crossing syn).len = s.nextPlan := by
  rw [planSound_iff] at h
  obtain ⟨-, hholds, -⟩ := h
  obtain ⟨⟨p, hp, hpframe, hplen⟩, ⟨q, hq, hqframe, hqlen⟩, -⟩ := hholds hl
  simp only [State.governing, State.nextPlan, crossing_eq, planIfFor, Plan.isFor, hp, hq, Option.filter_some, hpframe,
    hplen, hqframe, hqlen]
  by_cases hh : s.mtu.h + 1 < s.mtu.len
  · simp [hh]
  · simp [hh, @eq_comm _ s.mtu.len]

/-- R89, R95, R98: the lines, the records and the tallies that the switch stage makes of a crossing. -/
theorem takeCrossing_switchStage (c : Crossing) (s : State) : (takeCrossing c .switchStage s).switch =
    (driveLines c.frame c.h c.synthetic (zoneSet (s.drives c.frame c.len c.h)) s).switch := by
  simp only [takeCrossing, switchAtCrossing, accountZones_keeps]

/-! ### The crossing that a command makes (R7, R8) -/

theorem locked_of_crossesAt {i : Instr} {s : State} (hi : s.crossesAt i) : s.mtu.state = .locked := by
  cases i with
  | zxEdge | windowExpiry =>
    obtain ⟨hl, -⟩ := hi
    exact hl
  | _ => exact hi.elim

/-- R7, R8: a command that makes a crossing in LOCKED hands it on, with the mains timing unit in the half-cycle that
it begins; the crossing is synthetic when the window made it. -/
theorem exec_of_crossesAt {i : Instr} {s : State} (hm : s.mtu.sound) (hi : s.crossesAt i) : ∃ syn now m,
    exec i s = .next (txChoose (handOn i.takers (s.mtu.crossing syn) { s with now := now, mtu := m })) ∧
    m.state = .locked ∧ m.frame = (s.mtu.crossing syn).frame ∧ m.h = (s.mtu.crossing syn).h ∧
    (syn = true ↔ ∃ order, i = .windowExpiry order) := by
  cases i with
  | zxEdge time order =>
    obtain ⟨hl, r, hr, h1, h2⟩ := hi
    refine ⟨false, max s.now time, s.mtu.crossed (max s.now time) (max s.now time - r), ?_, by simpa using hl, rfl,
      rfl, by simp⟩
    exact congrArg (fun u => Host.Outcome.next (txChoose u)) (edgeAt_of_valid order hm hl hr h1 h2)
  | windowExpiry order =>
    obtain ⟨hl, hc, hr⟩ := hi
    obtain ⟨r, hr⟩ := Option.isSome_iff_exists.mp hr
    refine ⟨true, max s.now (r + 1250), s.mtu.coasted (max s.now (r + 1250)) r, ?_, by simpa using hl, rfl, rfl,
      by simp⟩
    rw [exec_windowExpiry_of_locked order hl, expireWindow_of_clear order hr hc]
    rfl
  | _ => exact hi.elim

/-- Log entry 5: the switch stage takes the crossing first where the command names it first, or names no block. -/
theorem takerOrder_switchStage_first {order : List Taker} (h : order = [] ∨ order.head? = some .switchStage) :
    ∃ l, .switchStage ∉ l ∧ takerOrder order = .switchStage :: l := by
  obtain ⟨l, hl⟩ : ∃ l, takerOrder order = .switchStage :: l := by
    rcases h with rfl | h
    · exact ⟨_, rfl⟩
    · obtain ⟨rest, rfl⟩ := List.head?_eq_some_iff.mp h
      exact ⟨_, by rw [takerOrder, List.eraseDups_cons, List.cons_append]⟩
  have hnodup := takerOrder_nodup order
  rw [hl, List.nodup_cons] at hnodup
  obtain ⟨hnot, -⟩ := hnodup
  exact ⟨l, hnot, hl⟩

/-- R93: what the switch stage, taking the crossing first, leaves, the other blocks leave. -/
theorem handOn_switch_of_first {order : List Taker} (h : order = [] ∨ order.head? = some .switchStage)
    (c : Crossing) (s : State) : (handOn order c s).switch = (takeCrossing c .switchStage s).switch := by
  have others : ∀ (l : List Taker) (u : State), .switchStage ∉ l →
      (l.foldl (fun u k => takeCrossing c k u) u).switch = u.switch := by
    intro l
    induction l with
    | nil => exact fun u _ => rfl
    | cons k l ih =>
      intro u hl
      obtain ⟨hk, hl⟩ := not_or.mp (mt List.mem_cons.mpr hl)
      exact (ih _ hl).trans (takeCrossing_switch k u (Ne.symm hk))
  obtain ⟨l, hnot, hl⟩ := takerOrder_switchStage_first h
  rw [handOn, hl]
  exact others l _ hnot

/-- Settles O25: `drives_iff`, on the plan of `governing_crossing`. -/
theorem switchStageDrivesByTheDriveLaw : Obligations.SwitchStageDrivesByTheDriveLaw := by
  intro i s hs hi hfirst
  obtain ⟨hm, -, hplan, ⟨hdrive, -⟩, -⟩ := hs
  have hl := locked_of_crossesAt hi
  obtain ⟨old, hold, hopen, -⟩ := hdrive hl
  obtain ⟨syn, now, m, hexec, hml, hframe, hh, hsyn⟩ := exec_of_crossesAt hm hi
  obtain ⟨t, ht⟩ : ∃ t, t = txChoose (handOn i.takers (s.mtu.crossing syn) { s with now := now, mtu := m }) :=
    ⟨_, rfl⟩
  have hmtu : t.mtu = m := by rw [ht]; simp
  have hswitch := (congrArg State.switch ht).trans ((txChoose_sameBlocks _).switch.trans
    ((handOn_switch_of_first hfirst _ _).trans (takeCrossing_switchStage _ _)))
  rw [← ht] at hexec
  generalize hu : ({ s with now := now, mtu := m } : State) = u at hswitch
  have hlines : t.switch.lines = zoneSet (u.drives (s.mtu.crossing syn).frame (s.mtu.crossing syn).len m.h) := by
    rw [hswitch, hh]
    rfl
  refine ⟨t, _, hexec, by rw [hswitch]; rfl, ?_, ?_, hsyn, rfl, ?_, ?_, fun z => ?_, fun z => ?_, old, hold, ?_⟩
  · rw [hmtu, hframe]
  · rw [hmtu, hh]
  · rw [hlines, hh]
  · rw [hlines, hh, ← hu]
    rfl
  · subst hu
    rw [hlines, inZones_zoneSet, drives_iff hml, hmtu, ← governing_crossing hplan hl syn]
    rfl
  · rw [hswitch]
    subst hu
    simp only [driveLines, Fin.getElem_fin, Vector.getElem_ofFn]
    rfl
  · rw [hswitch]
    subst hu
    simp [driveLines, hold, DriveRecord.closeOpen, hopen]

end Sys2Proof.Machine
end

section
/-! SUPPORT. The drive lines stay sound: the record that a crossing makes is within the limit of the plan that it
leaves committed, in whatever order the blocks take it. Settles O8. -/

namespace Sys2Proof.Machine

/-! ### The takers still to come -/

/-- An invariant that may speak of the takers still to come: no taker takes a crossing twice. -/
theorem handOn_induction_rest {c : Crossing} {P : List Taker → State → Prop}
    (hP : ∀ k l s, k ∉ l → P (k :: l) s → P l (takeCrossing c k s)) (order : List Taker) {s : State}
    (hs : P (takerOrder order) s) : P [] (handOn order c s) := by
  have hnodup := takerOrder_nodup order
  unfold handOn
  generalize takerOrder order = l at hs hnodup
  induction l generalizing s with
  | nil => exact hs
  | cons k l ih =>
    obtain ⟨hk, hl⟩ := List.nodup_cons.mp hnodup
    exact ih (hP k l s hk hs) hl

/-! ### The record of a crossing (R80, R89, R95) -/

/-- R80: what the planner's plans allow the switch stage at a crossing: a plan that governs the half-cycle is sound
and its supply limit is within `bound`. -/
def Planner.feeds (n : Planner) (c : Crossing) (bound : Nat) : Prop :=
  ∀ p, (planIfFor n.committed c.frame c.len).or (planIfFor n.building c.frame c.len) = some p →
    p.sound ∧ p.limits.supply ≤ bound

/-- R65: a sound plan with this supply limit is committed for the frame of a crossing. -/
def Planner.commits (n : Planner) (c : Crossing) (bound : Nat) : Prop :=
  ∃ p, n.committed = some p ∧ p.frame = c.frame ∧ p.len = c.len ∧ p.sound ∧ p.limits.supply = bound

/-- R89, R95: the open present record is that of the half-cycle that a crossing begins, its set on the lines and its
current within `bound`. -/
def SwitchStage.records (w : SwitchStage) (c : Crossing) (bound : Nat) : Prop :=
  ∃ d, w.present = some d ∧ d.status = .opened ∧ d.frame = c.frame ∧ d.h = c.h ∧ w.lines = d.set ∧
    d.current ≤ bound

/-- R89, R98: the previous record is not open, and the fired tallies are within their bound. -/
def SwitchStage.behindSound (w : SwitchStage) : Prop :=
  (∀ r, w.previous = some r → r.status ≠ .opened) ∧ ∀ z : ZoneId, w.fired[z] ≤ max32

section Crossing

variable {c : Crossing} {s : State} {bound : Nat}

theorem Planner.commits.feeds {n : Planner} (h : n.commits c bound) : n.feeds c bound := by
  obtain ⟨p, hp, hframe, hlen, hsound, hsupply⟩ := h
  intro q hq
  rw [planIfFor_eq_some_iff.mpr ⟨hp, hframe, hlen⟩, Option.some_or] at hq
  obtain rfl := Option.some.inj hq
  exact ⟨hsound, hsupply.le⟩

/-- R80: the current of the driven zones is within the limit of the plan that governs them. -/
theorem currentOf_driven_le (h : s.planner.feeds c bound) :
    s.currentOf (zoneSet (s.drives c.frame c.len c.h)) ≤ bound := by
  obtain ⟨hlimit, hnone⟩ := drivenCurrentsStayWithinThePlansLimits s c.frame c.len c.h
  simp only [State.currentOf, inZones_zoneSet]
  cases hp : s.governing c.frame c.len with
  | none => simp [hnone hp]
  | some p =>
    obtain ⟨hsound, hsupply⟩ := h p hp
    obtain ⟨hle, -⟩ := hlimit p hsound hp
    exact hle.trans hsupply

theorem takeCrossing_records (h : s.planner.feeds c bound) :
    (takeCrossing c .switchStage s).switch.records c bound := by
  rw [takeCrossing_switchStage]
  exact ⟨_, rfl, rfl, rfl, rfl, rfl, currentOf_driven_le h⟩

theorem closeOpen_not_opened (r : DriveRecord) : r.closeOpen.status ≠ .opened := by
  unfold DriveRecord.closeOpen
  split
  · exact nofun
  · assumption

theorem takeCrossing_behindSound (h : s.switch.behindSound) :
    (takeCrossing c .switchStage s).switch.behindSound := by
  obtain ⟨-, htally⟩ := h
  rw [takeCrossing_switchStage]
  refine ⟨fun r hr => ?_, fun z => ?_⟩
  · obtain ⟨r, -, rfl⟩ := Option.map_eq_some_iff.mp hr
    exact closeOpen_not_opened r
  · simp only [driveLines, Fin.getElem_fin, Vector.getElem_ofFn, SwitchStage.tallyAfter]
    split
    · exact satAdd_le _ _ _
    · exact htally z

theorem handOn_behindSound (order : List Taker) (h : s.switch.behindSound) :
    (handOn order c s).switch.behindSound := by
  refine handOn_induction (P := fun u => u.switch.behindSound) (fun k u hu => ?_) order h
  by_cases hk : k = .switchStage
  · exact hk ▸ takeCrossing_behindSound hu
  · rw [takeCrossing_switch k u hk]
    exact hu

/-- A crossing that the takers in `l` have still to take: while the planner is among them it holds `n`, and after it
the plan is committed; once the switch stage is not among them its record is made. -/
def State.midCrossing (s : State) (c : Crossing) (n : Planner) (bound : Nat) (l : List Taker) : Prop :=
  (.planner ∈ l → s.planner = n) ∧ (.planner ∉ l → s.planner.commits c bound) ∧
  (.switchStage ∉ l → s.switch.records c bound)

section Records

variable {n : Planner} (hbefore : n.feeds c bound)
  (hcommit : ∀ u : State, u.planner = n → (takeCrossing c .planner u).planner.commits c bound)
include hbefore hcommit

theorem takeCrossing_midCrossing {k : Taker} {l : List Taker} (hk : k ∉ l) (h : s.midCrossing c n bound (k :: l)) :
    (takeCrossing c k s).midCrossing c n bound l := by
  obtain ⟨hto, hdone, hrecords⟩ := h
  by_cases hplanner : k = .planner
  · subst hplanner
    refine ⟨fun hl => absurd hl hk, fun _ => hcommit s (hto List.mem_cons_self), fun hl => ?_⟩
    rw [takeCrossing_switch .planner s nofun]
    exact hrecords (by simpa using hl)
  · have hmem : .planner ∈ k :: l ↔ .planner ∈ l := by simp [Ne.symm hplanner]
    rw [hmem] at hto hdone
    rw [State.midCrossing, takeCrossing_planner k s hplanner]
    refine ⟨hto, hdone, fun hl => ?_⟩
    by_cases hswitch : k = .switchStage
    · have hfeeds : s.planner.feeds c bound := by
        by_cases h : .planner ∈ l
        · exact (hto h).symm ▸ hbefore
        · exact (hdone h).feeds
      exact hswitch ▸ takeCrossing_records hfeeds
    · rw [takeCrossing_switch k s hswitch]
      exact hrecords (by simpa [Ne.symm hswitch] using hl)

/-- R64, R65, R89: the switch stage and the planner at a crossing, in either order: where the plan to be committed has
the supply limit `bound`, and a plan that governs before the commit is within it, so is the record. -/
theorem handOn_records (order : List Taker) (hs : s.planner = n) :
    (handOn order c s).switch.records c bound ∧ (handOn order c s).planner.commits c bound := by
  have htaken : ∀ k, k ∉ takerOrder order → False := fun k hk => hk (mem_takerOrder order k)
  obtain ⟨-, hcommits, hrecords⟩ := handOn_induction_rest (P := fun l u => u.midCrossing c n bound l)
    (fun _ _ _ hk hu => takeCrossing_midCrossing hbefore hcommit hk hu) order
    ⟨fun _ => hs, fun h => (htaken _ h).elim, fun h => (htaken _ h).elim⟩
  exact ⟨hrecords List.not_mem_nil, hcommits List.not_mem_nil⟩

end Records

/-- A state in LOCKED, in the half-cycle of a crossing that has left its record and its plan. -/
theorem driveSound_of_records (hl : s.mtu.state = .locked) (hframe : c.frame = s.mtu.frame) (hh : c.h = s.mtu.h)
    (h : s.switch.records c bound ∧ s.planner.commits c bound) (hbehind : s.switch.behindSound) :
    s.driveSound := by
  obtain ⟨⟨d, hd, hopen, hdframe, hdh, hlines, hcurrent⟩, p, hp, -, -, -, hsupply⟩ := h
  obtain ⟨hprevious, htally⟩ := hbehind
  refine ⟨fun _ => ⟨d, hd, hopen, hdframe.trans hframe, hdh.trans hh, hlines, fun q hq => ?_⟩,
    fun hn => absurd hl hn, hprevious, htally⟩
  obtain rfl := Option.some.inj (hp.symm.trans hq)
  exact hcurrent.trans_eq hsupply.symm

/-! ### The crossings (R65, R80, R95) -/

theorem State.driveSound.behind (h : s.driveSound) : s.switch.behindSound := by
  obtain ⟨-, -, hbehind⟩ := h
  exact hbehind

theorem State.driveSound.tally (h : s.driveSound) : ∀ z : ZoneId, s.switch.fired[z] ≤ max32 := by
  obtain ⟨-, htally⟩ := h.behind
  exact htally

/-- R65: the limits of the plan that a boundary commits are the planner's own. -/
theorem committedAt_limits {t : State} (h : t.planner = s.planner) (frame : BitVec 32) (len : Nat)
    (discard : Bool) : (t.committedAt frame len discard).limits = (s.committedAt frame len discard).limits := by
  unfold State.committedAt
  rw [h]
  split
  · exact congrArg Planner.limits h
  · cases planIfFor s.planner.building frame len with
    | none => exact congrArg Planner.limits h
    | some p => rfl

/-- R65: what the planner leaves committed at a boundary. -/
theorem plannerAtBoundary_commits (hb : c.boundary = true) (hs : s.planner.sound) (u : State)
    (hu : u.planner = s.planner) : (takeCrossing c .planner u).planner.commits c
      (s.committedAt c.frame c.len (c.lChanged || c.lock)).limits.supply := by
  obtain ⟨-, hframe, hlen⟩ := planIfFor_eq_some_iff.mp
    (committedAt_isFor u c.frame c.len (c.lChanged || c.lock))
  exact ⟨_, plannerAtBoundary_committed hb u, hframe, hlen, committedAt_sound (hu ▸ hs) _ _ _,
    congrArg Limits.supply (committedAt_limits hu _ _ _)⟩

/-- R64, R65: at a boundary in LOCKED a plan that governs the half-cycle before the commit is the one committed. -/
theorem feeds_committedAt (h : s.planSound) (hl : s.mtu.state = .locked) (syn : Bool)
    (hh : ¬ s.mtu.h + 1 < s.mtu.len) : s.planner.feeds (s.mtu.crossing syn)
      (s.committedAt (s.mtu.crossing syn).frame (s.mtu.crossing syn).len
        ((s.mtu.crossing syn).lChanged || (s.mtu.crossing syn).lock)).limits.supply := by
  intro p hp
  have hnext : s.nextPlan = some p := (governing_crossing h hl syn).symm.trans hp
  rw [planSound_iff] at h
  obtain ⟨⟨-, hsound, -⟩, hholds, -⟩ := h
  obtain ⟨-, ⟨q, hq, hqframe, hqlen⟩, -⟩ := hholds hl
  simp only [State.nextPlan, if_neg hh] at hnext
  split at hnext
  · next hlen =>
    obtain rfl := Option.some.inj (hq.symm.trans hnext)
    have hcommitted : s.committedAt (s.mtu.frame + 1) s.mtu.pendingLen false = q :=
      committedAt_of_some (planIfFor_eq_some_iff.mpr ⟨hq, hqframe, hqlen.trans hlen.symm⟩)
    simp only [crossing_eq, hh, if_false, hlen, decide_false, Bool.not_false, bne_self_eq_false, Bool.and_false,
      Bool.or_false]
    rw [← hlen, hcommitted]
    exact ⟨hsound q hq, le_refl _⟩
  · cases hnext

/-- R80, R95: a crossing in LOCKED. -/
theorem crossLocked_keeps_driveSound (order : List Taker) (ref : Nat) (syn : Bool) (hl : s.mtu.state = .locked)
    (hplan : s.planSound) (h : s.driveSound) : (crossLocked order ref syn s).driveSound := by
  have hstate : (crossLocked order ref syn s).mtu.state = .locked := by
    rw [crossLocked_mtu, advance_eq]
    exact hl
  have hbehind : (crossLocked order ref syn s).switch.behindSound := handOn_behindSound order h.behind
  have hmtu := crossLocked_mtu order ref syn s
  by_cases hh : s.mtu.h + 1 < s.mtu.len
  · have hc : (s.mtu.crossing syn).boundary = false := by simp [crossing_eq, hh]
    obtain ⟨hsound, hholds, -⟩ := (planSound_iff s).mp hplan
    obtain ⟨⟨p, hp, hpframe, hplen⟩, -⟩ := hholds hl
    obtain ⟨hcommitted, -⟩ := hsound
    have hcommits : s.planner.commits (s.mtu.crossing syn) p.limits.supply :=
      ⟨p, hp, by simp [crossing_eq, hh, hpframe], by simp [crossing_eq, hh, hplen], hcommitted p hp, rfl⟩
    refine driveSound_of_records hstate (by rw [hmtu]; rfl) (by rw [hmtu]; rfl)
      (handOn_records hcommits.feeds (fun u hu => ?_) order rfl) hbehind
    rw [takeCrossing, plannerAtBoundary, if_neg (by simp [hc]), hu]
    exact hcommits
  · have hc : (s.mtu.crossing syn).boundary = true := by simp [crossing_eq, hh]
    obtain ⟨hsound, -⟩ := (planSound_iff s).mp hplan
    exact driveSound_of_records hstate (by rw [hmtu]; rfl) (by rw [hmtu]; rfl)
      (handOn_records (feeds_committedAt hplan hl syn hh) (plannerAtBoundary_commits hc hsound) order rfl) hbehind

/-- R65, R82: the lock crossing, before which no plan is held. -/
theorem lockMains_keeps_driveSound (order : List Taker) (hl : s.mtu.state ≠ .locked) (hplan : s.planSound)
    (h : s.driveSound) : (lockMains order s).driveSound := by
  obtain ⟨hsound, -, hempty⟩ := (planSound_iff s).mp hplan
  obtain ⟨hcommitted, hbuilding, -⟩ := hempty hl
  have hfeeds : ∀ bound, s.planner.feeds (lockCrossing s.mtu) bound := by
    intro bound p hp
    rw [hcommitted, hbuilding] at hp
    cases hp
  have hmtu := lockMains_mtu order s
  exact driveSound_of_records (c := lockCrossing s.mtu) (by rw [hmtu]) (by rw [hmtu]; rfl) (by rw [hmtu]; rfl)
    (handOn_records (hfeeds _) (plannerAtBoundary_commits rfl hsound) order rfl) (handOn_behindSound order h.behind)

/-- R94: a mains loss. -/
theorem loseMains_keeps_driveSound (h : s.driveSound) : (loseMains s).driveSound := by
  obtain ⟨-, -, hprevious, htally⟩ := h
  have hswitch : (loseMains s).switch = (dropLines s).switch := by rw [loseMains_eq]
  rw [State.driveSound, loseMains_mtu, hswitch]
  refine ⟨nofun, fun _ => ⟨rfl, fun r hr => ?_⟩, hprevious, htally⟩
  obtain ⟨r, -, rfl⟩ := Option.map_eq_some_iff.mp hr
  rfl

end Crossing

/-! ### Every command (R88, R93) -/

/-- The drive lines stay sound where lines and records stay, with what they are compared to. -/
theorem driveSound_of_sameDrive {s t : State} (h : s.driveSound) (hd : t.sameDrive s)
    (htally : ∀ z : ZoneId, t.switch.fired[z] ≤ max32) (hp : t.planner.committed = s.planner.committed)
    (hst : t.mtu.state = .locked ↔ s.mtu.state = .locked)
    (hpos : t.mtu.state = .locked → t.mtu.frame = s.mtu.frame ∧ t.mtu.h = s.mtu.h) : t.driveSound := by
  obtain ⟨hlines, hpresent, hprevious⟩ := hd
  obtain ⟨hlocked, hnot, hclosed, -⟩ := h
  rw [State.driveSound, hlines, hpresent, hprevious, hp]
  refine ⟨fun hl => ?_, fun hl => hnot (mt hst.mpr hl), hclosed, htally⟩
  obtain ⟨hframe, hh⟩ := hpos hl
  rw [hframe, hh]
  exact hlocked (hst.mp hl)

theorem driveSound_of_same {s t : State} (h : s.driveSound) (hm : t.mtu = s.mtu) (hp : t.planner = s.planner)
    (hw : t.switch = s.switch) : t.driveSound := by
  exact driveSound_of_sameDrive h (sameDrive_of_switch hw) (hw ▸ h.tally) (by rw [hp]) (by rw [hm])
    fun _ => by rw [hm]; exact ⟨rfl, rfl⟩

theorem blank_driveSound (now : Nat) (b : Straps) (raw : Vector Bool 4) (stop : Bool) (store : TripStore)
    (pending : List Instr) : (State.blank now b raw stop store pending).driveSound := by
  have htally : ∀ z : ZoneId, SwitchStage.reset.fired[z] = 0 := fun z => by simp [SwitchStage.reset]
  exact ⟨nofun, fun _ => ⟨rfl, nofun⟩, nofun, fun z => (htally z).trans_le (Nat.zero_le _)⟩

theorem answer_keeps_driveSound {s : State} (r : Request) (h : s.driveSound) : (answer r s).state.driveSound := by
  have htally := h.tally
  cases r with
  | setFrame l =>
    have hp := congrArg Planner.committed (answerSetFrame_planner l s)
    have hw : (answer (.setFrame l) s).state.switch = s.switch := answer_switch _ s nofun
    have hm : (answer (.setFrame l) s).state.mtu.state = s.mtu.state ∧
        (answer (.setFrame l) s).state.mtu.frame = s.mtu.frame ∧
        (answer (.setFrame l) s).state.mtu.h = s.mtu.h := by
      rcases answerSetFrame_mtu l s with e | e <;> rw [answer, e] <;> exact ⟨rfl, rfl, rfl⟩
    obtain ⟨hst, hpos⟩ := hm
    exact driveSound_of_sameDrive h (sameDrive_of_switch hw) (by rwa [hw]) hp (by rw [hst]) fun _ => hpos
  | setLimits => exact driveSound_of_sameDrive h (sameDrive_of_switch rfl) htally rfl Iff.rfl fun _ => ⟨rfl, rfl⟩
  | clearTally x =>
    have hm : (answer (.clearTally x) s).state.mtu = s.mtu := answer_mtu _ s nofun
    exact driveSound_of_sameDrive h (answerClearTally_sameDrive x s) (clearSelected_le htally x)
      (by simp only [answer, answerClearTally, State.grant]) (by rw [hm]) fun _ => by rw [hm]; exact ⟨rfl, rfl⟩
  | _ => exact driveSound_of_same h (answer_mtu _ s nofun) (answer_planner _ s nofun nofun) (answer_switch _ s nofun)

/-- R88, R93 to R95: what each part of a command keeps of the drive lines, beside the plans that limit them. -/
theorem driveSound_keptByParts : KeptByParts fun s => s.planSound ∧ s.driveSound := by
  have k := planSound_keptByParts
  exact {
    frame := fun hb ⟨hp, hd⟩ => ⟨k.frame hb hp, by
      obtain ⟨hm, -, -, hp, hw, -⟩ := hb
      exact driveSound_of_same hd hm hp hw⟩
    power := fun _ _ _ _ _ => ⟨blank_planSound _ _ _ _ _ _, blank_driveSound _ _ _ _ _ _⟩
    pin := fun _ _ _ _ _ _ => ⟨blank_planSound _ _ _ _ _ _, blank_driveSound _ _ _ _ _ _⟩
    retime := fun m hst hlen hframe hh ⟨hp, hd⟩ => ⟨k.retime m hst hlen hframe hh hp,
      driveSound_of_sameDrive hd (sameDrive_of_switch rfl) hd.tally rfl hst fun hl => ⟨hframe, hh hl⟩⟩
    lock := fun order hst h8 hlen ⟨hp, hd⟩ => ⟨k.lock order hst h8 hlen hp,
      lockMains_keeps_driveSound order (by simp [hst]) hp hd⟩
    cross := fun order ref syn hm hl ⟨hp, hd⟩ => ⟨k.cross order ref syn hm hl hp,
      crossLocked_keeps_driveSound order ref syn hl hp hd⟩
    lose := fun hl ⟨hp, hd⟩ => ⟨k.lose hl hp, loseMains_keeps_driveSound hd⟩
    point := fun cs first hl ⟨hp, hd⟩ => ⟨k.point cs first hl hp,
      driveSound_of_sameDrive hd (sameDrive_of_switch (by simp)) (by simpa using hd.tally) (by simp)
        (by rw [midPoint_mtu]) fun _ => by rw [midPoint_mtu]; exact ⟨rfl, rfl⟩⟩
    reading := fun v ⟨hp, hd⟩ => ⟨k.reading v hp, driveSound_of_same hd (by simp) (by simp) (by simp)⟩
    raw := fun line level ⟨hp, hd⟩ => ⟨k.raw line level hp,
      driveSound_of_same hd (by simp) (by cases line <;> rfl) (by simp)⟩
    aux := fun g ⟨hp, hd⟩ => ⟨k.aux g hp, driveSound_of_same hd (by simp) (by simp) (by simp)⟩
    stop := fun ⟨hp, hd⟩ => ⟨k.stop hp, driveSound_of_same hd (by simp) (by simp) (by simp)⟩
    closeTimer := fun g hr ⟨hp, hd⟩ => ⟨k.closeTimer g hr hp,
      driveSound_of_same hd (by simp) (by simp) (by simp)⟩
    releaseTimer := fun g hr ⟨hp, hd⟩ => ⟨k.releaseTimer g hr hp,
      driveSound_of_same hd (by simp) (by simp) (by simp)⟩
    openTimer := fun g hr ⟨hp, hd⟩ => ⟨k.openTimer g hr hp,
      driveSound_of_same hd (by simp) (by unfold openExpired; split <;> simp) (by simp)⟩
    verifyTimer := fun g hr ⟨hp, hd⟩ => ⟨k.verifyTimer g hr hp,
      driveSound_of_same hd (by simp) (by unfold verifyExpired; split <;> simp) (by simp)⟩
    stuckTimer := fun g hr ⟨hp, hd⟩ => ⟨k.stuckTimer g hr hp,
      driveSound_of_same hd (by simp) (by simp) (by simp)⟩
    answered := fun r hm hr ⟨hp, hd⟩ => ⟨k.answered r hm hr hp, answer_keeps_driveSound r hd⟩ }

/-- Settles O8: every step keeps what the parts of its command keep. -/
theorem stepKeepsTheDriveLinesSound : Obligations.StepKeepsTheDriveLinesSound := by
  intro s t hs h
  obtain ⟨hm, -, hplan, hdrive, -⟩ := hs
  obtain ⟨-, ht⟩ := driveSound_keptByParts.step hm ⟨hplan, hdrive⟩ h
  exact ht

end Sys2Proof.Machine
end

section
/-! SUPPORT. CLEAR_TALLY and RELEASE_TRIP_RECORD: what each answers, and its reply. Settles O60. -/

namespace Sys2Proof.Machine

/-! ### CLEAR_TALLY (R100) -/

theorem selects_iff (x : Byte) (z : ZoneId) : selects x z = true ↔ x = 255 ∨ x = zoneByte z := by
  simp [selects]

theorem clearTally_inRange {x : Byte} (hx : x.toNat ≤ 23 ∨ x = 255) (len : Nat) :
    (Request.clearTally x).inRange len = true := by
  rcases hx with hx | rfl
  · simp [Request.inRange, zoneInRange, Nat.lt_succ_of_le hx]
  · rfl

/-! ### RELEASE_TRIP_RECORD (R156) -/

theorem TripStore.find_of_absent {t : TripStore} {n : Half} (h : ∀ r ∈ t.records, r.number ≠ n) :
    t.find n = none :=
  List.find?_eq_none.mpr fun r hr => by simpa using h r hr

section Held

variable {t : TripStore} {a b : List TripRecord} {r : TripRecord} (ht : t.records = a ++ r :: b)
  (hother : ∀ x ∈ a ++ b, x.number ≠ r.number)
include ht hother

theorem TripStore.find_of_only : t.find r.number = some r := by
  have hbefore : ∀ x ∈ a, ¬ (x.number == r.number) = true := fun x hx => by
    simpa using hother x (List.mem_append_left b hx)
  rw [TripStore.find, ht, List.find?_append, List.find?_eq_none.mpr hbefore, List.find?_cons_of_pos (by simp)]
  rfl

/-- R156: the record of a number is changed where it stands, and no other record. -/
theorem TripStore.update_of_only (f : TripRecord → TripRecord) :
    t.update r.number f = { t with records := a ++ f r :: b } := by
  have unchanged : ∀ l : List TripRecord, (∀ x ∈ l, x.number ≠ r.number) →
      (l.map fun x => if x.number = r.number then f x else x) = l := fun l hl =>
    (List.map_congr_left fun x hx => if_neg (hl x hx)).trans (List.map_id' l)
  have ha := unchanged a fun x hx => hother x (List.mem_append_left b hx)
  have hb := unchanged b fun x hx => hother x (List.mem_append_right a hx)
  rw [TripStore.update, ht, List.map_append, List.map_cons, ha, hb, if_pos rfl]

end Held

theorem answerReleaseTripRecord_absent {n : Half} {s : State} (h : s.store.find n = none) :
    answerReleaseTripRecord n s = s.deny .notFound := by
  rw [answerReleaseTripRecord, h]

theorem answerReleaseTripRecord_pending {n : Half} {s : State} {r : TripRecord} (h : s.store.find n = some r)
    (hr : r.isPending = true) : answerReleaseTripRecord n s = s.deny .recordPending := by
  rw [answerReleaseTripRecord, h]
  exact if_pos hr

theorem answerReleaseTripRecord_resolved {n : Half} {s : State} {r : TripRecord} (h : s.store.find n = some r)
    (hr : r.isPending = false) : answerReleaseTripRecord n s =
      { s with store := s.store.update n fun x => { x with released := true } }.grant [] := by
  rw [answerReleaseTripRecord, h]
  exact if_neg (by simp [hr])

/-- Settles O60: each answer on the state in which the request is taken, as the reply. -/
theorem clearTallyAndReleaseTripRecord : Obligations.ClearTallyAndReleaseTripRecord := by
  intro hd s h s1
  have hstore : s1.store = s.store := by simp only [received_keeps, s1]
  have inRange : ∀ n : Half, n ≠ 0 → (Request.releaseTripRecord n).inRange s.mtu.len = true := fun n hn =>
    (within_iff _ _ _).mpr ⟨Nat.one_le_iff_ne_zero.mpr fun e => hn (BitVec.eq_of_toNat_eq e),
      Nat.le_of_lt_succ n.isLt⟩
  refine ⟨fun x hx => ?_, fun n hn habsent => ?_,
    fun a r b hrecords hn hother => ⟨fun hp => ?_, fun hp => ?_⟩⟩
  · intro picked sum
    refine exec_of_answer rfl rfl h (clearTally_inRange hx _) ?_ nofun
    simp only [answer, answerClearTally, State.grant, clearSelected, selectedSum, selects_iff, received_keeps, s1,
      picked, sum]
    rfl
  · exact exec_of_answer rfl rfl h (inRange n hn)
      (answerReleaseTripRecord_absent (TripStore.find_of_absent (hstore ▸ habsent))) nofun
  all_goals
    have hheld : s1.store.records = a ++ r :: b := hstore ▸ hrecords
    have hfind := TripStore.find_of_only hheld hother
  · exact exec_of_answer rfl rfl h (inRange _ hn)
      (answerReleaseTripRecord_pending hfind (r.isPending_iff.mpr hp)) nofun
  · have hresolved : r.isPending = false := by
      refine Bool.eq_false_of_not_eq_true fun e => ?_
      obtain ⟨g, hg⟩ := r.isPending_iff.mp e
      exact hp g hg
    refine exec_of_answer rfl rfl h (inRange _ hn) ((answerReleaseTripRecord_resolved hfind hresolved).trans ?_) nofun
    rw [TripStore.update_of_only hheld hother]
    rfl

end Sys2Proof.Machine
end

section
/-! SUPPORT. The readings of the supply current (R112). -/

namespace Sys2Proof.Machine

theorem takeReading_of_locked {s : State} (h : s.mtu.state = .locked) (v : Nat) : takeReading v s =
    { s.atTime (s.sup.readingsFrom + (s.sup.readings.length + 1) * Config.isensePeriod) with
      sup := { s.sup with readings := v :: s.sup.readings } } := by
  rw [takeReading, State.isLocked, h]
  rfl

theorem takeReading_of_not_locked {s : State} (h : s.mtu.state ≠ .locked) (v : Nat) : takeReading v s = s := by
  simp [takeReading, State.isLocked, h]

/-- Settles O22: `takeReading` in LOCKED and outside it. -/
theorem isenseReadingJoinsTheAccumulation : Obligations.IsenseReadingJoinsTheAccumulation := fun v _ =>
  ⟨fun h => congrArg Host.Outcome.next (takeReading_of_locked h v.toNat),
    fun h => congrArg Host.Outcome.next (takeReading_of_not_locked h v.toNat)⟩

end Sys2Proof.Machine
end

section
/-! SUPPORT. Supervision at a crossing: the supply check, the latch and the leak, each as one change of the state
(R110 to R115). -/

namespace Sys2Proof.Machine

/-! ### One score at a frame boundary (R111, R115) -/

/-- R111: a score after step 2 of a boundary, given whether it leaks. -/
def leakedScore (leaks : Bool) (leak n : Nat) : Nat := if leaks then n - leak else n

/-- R111: the report of a score that the leak brings to 0. -/
def leakReport (leaks : Bool) (leak n : Nat) (r : Report) : List Report :=
  if leaks ∧ 0 < n ∧ n ≤ leak then [r] else []

/-- R111: the open-load score of a zone leaks at the boundary. -/
def State.openLeaks (s : State) (z : ZoneId) : Bool :=
  s.leaks z && inZones s.sup.openChecked z && !inZones s.sup.openFailed z

/-- R111: the stuck-on score of a zone leaks at the boundary. -/
def State.stuckLeaks (s : State) (z : ZoneId) : Bool :=
  s.leaks z && inZones s.sup.stuckChecked z && !inZones s.sup.stuckFailed z

theorem leakOpen_eq (z : ZoneId) (s : State) : leakOpen z s = { s with
    sup := { s.sup with
      openScores := s.sup.openScores.set z.val (leakedScore (s.openLeaks z) s.sup.leak s.sup.openScores[z]) z.isLt },
    reports := s.reports.offerAll
      (leakReport (s.openLeaks z) s.sup.leak s.sup.openScores[z] (.zoneCleared z .openLoad)) } := by
  have hcond : (s.leaks z && inZones s.sup.openChecked z && !inZones s.sup.openFailed z) = s.openLeaks z := rfl
  unfold leakOpen leakedScore leakReport
  dsimp only
  rw [hcond]
  cases s.openLeaks z with
  | false => simp
  | true =>
    simp only [if_true, true_and, Nat.sub_eq_zero_iff_le]
    split <;> rfl

theorem leakStuck_eq (z : ZoneId) (s : State) : leakStuck z s = { s with
    sup := { s.sup with stuckScores :=
      s.sup.stuckScores.set z.val (leakedScore (s.stuckLeaks z) s.sup.leak s.sup.stuckScores[z]) z.isLt },
    reports := s.reports.offerAll
      (leakReport (s.stuckLeaks z) s.sup.leak s.sup.stuckScores[z] (.zoneCleared z .stuckOn)) } := by
  have hcond : (s.leaks z && inZones s.sup.stuckChecked z && !inZones s.sup.stuckFailed z) = s.stuckLeaks z := rfl
  unfold leakStuck leakedScore leakReport
  dsimp only
  rw [hcond]
  cases s.stuckLeaks z with
  | false => simp
  | true =>
    simp only [if_true, true_and, Nat.sub_eq_zero_iff_le]
    split <;> rfl

/-- R115: the supply score leaks at the boundary. -/
def State.supplyLeaks (s : State) : Bool := s.sup.supplyChecked && !s.sup.supplyFailed

theorem leakSupply_eq (s : State) : leakSupply s = { s with
    sup := { s.sup with supplyScore := leakedScore s.supplyLeaks s.sup.leak s.sup.supplyScore },
    reports := s.reports.offerAll
      (leakReport s.supplyLeaks s.sup.leak s.sup.supplyScore .supplyCleared) } := by
  have hcond : (s.sup.supplyChecked && !s.sup.supplyFailed) = s.supplyLeaks := rfl
  unfold leakSupply leakedScore leakReport
  dsimp only
  rw [hcond]
  cases s.supplyLeaks with
  | false => simp
  | true =>
    simp only [if_true, true_and, Nat.sub_eq_zero_iff_le]
    split <;> rfl

/-! ### The scores of all zones (R110, R111) -/

/-- R110: the reports of a zone's leak, open-load before stuck-on. -/
def State.leakReports (s : State) (z : ZoneId) : List Report :=
  leakReport (s.openLeaks z) s.sup.leak s.sup.openScores[z] (.zoneCleared z .openLoad) ++
    leakReport (s.stuckLeaks z) s.sup.leak s.sup.stuckScores[z] (.zoneCleared z .stuckOn)

/-- R111: the zones' scores written, with reports. -/
def State.scored (s : State) (opn stk : ZoneId → Nat) (rs : List Report) : State :=
  { s with
    sup := { s.sup with openScores := Vector.ofFn opn, stuckScores := Vector.ofFn stk },
    reports := s.reports.offerAll rs }

theorem scored_scored (s : State) (opn stk opn' stk' : ZoneId → Nat) (rs rs' : List Report) :
    (s.scored opn stk rs).scored opn' stk' rs' = s.scored opn' stk' (rs ++ rs') := by
  simp [State.scored]

theorem scored_scores (s : State) (opn stk : ZoneId → Nat) (rs : List Report) (z : ZoneId) :
    (s.scored opn stk rs).sup.openScores[z] = opn z ∧ (s.scored opn stk rs).sup.stuckScores[z] = stk z := by
  simp [State.scored]

/-- R111: whether a score leaks, the zones' scores do not say. -/
theorem scored_leaks (s : State) (opn stk : ZoneId → Nat) (rs : List Report) :
    (s.scored opn stk rs).openLeaks = s.openLeaks ∧ (s.scored opn stk rs).stuckLeaks = s.stuckLeaks ∧
    (s.scored opn stk rs).supplyLeaks = s.supplyLeaks := by
  refine ⟨funext fun z => ?_, funext fun z => ?_, ?_⟩
  · simp only [State.openLeaks, State.leaks, State.zone, State.scored]
  · simp only [State.stuckLeaks, State.leaks, State.zone, State.scored]
  · simp only [State.supplyLeaks, State.scored]

/-- R111: the open-load score of a zone once those of a list of zones have leaked. -/
def State.openAfterLeak (s : State) (zs : List ZoneId) (z : ZoneId) : Nat :=
  if z ∈ zs then leakedScore (s.openLeaks z) s.sup.leak s.sup.openScores[z] else s.sup.openScores[z]

/-- R111: the stuck-on score of a zone once those of a list of zones have leaked. -/
def State.stuckAfterLeak (s : State) (zs : List ZoneId) (z : ZoneId) : Nat :=
  if z ∈ zs then leakedScore (s.stuckLeaks z) s.sup.leak s.sup.stuckScores[z] else s.sup.stuckScores[z]

/-- R111: the state in which the scores of a list of zones have leaked. -/
def State.leakedZones (s : State) (zs : List ZoneId) : State :=
  s.scored (s.openAfterLeak zs) (s.stuckAfterLeak zs) (zs.flatMap s.leakReports)

/-- Writing one component of a vector. -/
theorem set_eq_ofFn (v : Vector Nat 24) (z : ZoneId) (n : Nat) :
    v.set z.val n z.isLt = Vector.ofFn fun y : ZoneId => if y = z then n else v[y] := by
  ext i hi
  by_cases e : i = z.val
  · subst e; simp
  · have e' : (⟨i, hi⟩ : ZoneId) ≠ z := fun h => e (congrArg Fin.val h)
    simp [Ne.symm e, e']

/-- R110, R111: one zone's two scores. -/
theorem leakZone_eq (z : ZoneId) (s : State) : leakZone z s = s.leakedZones [z] := by
  have hopen : s.sup.openScores.set z.val (leakedScore (s.openLeaks z) s.sup.leak s.sup.openScores[z]) z.isLt =
      Vector.ofFn (s.openAfterLeak [z]) := by
    rw [set_eq_ofFn]
    congr 1
    funext y
    by_cases e : y = z <;> simp [State.openAfterLeak, e]
  have hstuck : s.sup.stuckScores.set z.val (leakedScore (s.stuckLeaks z) s.sup.leak s.sup.stuckScores[z]) z.isLt =
      Vector.ofFn (s.stuckAfterLeak [z]) := by
    rw [set_eq_ofFn]
    congr 1
    funext y
    by_cases e : y = z <;> simp [State.stuckAfterLeak, e]
  have hleaks : (leakOpen z s).stuckLeaks z = s.stuckLeaks z := by rw [leakOpen_eq]; rfl
  rw [leakZone, leakStuck_eq, hleaks, leakOpen_eq, hopen]
  simp only [hstuck, ← offerAll_append]
  simp only [State.leakedZones, State.scored, State.leakReports, List.flatMap_cons, List.flatMap_nil, List.append_nil]

theorem leakedZones_nil (s : State) : s.leakedZones [] = s := by
  have hopen : Vector.ofFn (s.openAfterLeak []) = s.sup.openScores := by ext i hi; simp [State.openAfterLeak]
  have hstuck : Vector.ofFn (s.stuckAfterLeak []) = s.sup.stuckScores := by ext i hi; simp [State.stuckAfterLeak]
  simp [State.leakedZones, State.scored, hopen, hstuck]

theorem leakedZones_cons {z : ZoneId} {zs : List ZoneId} (hz : z ∉ zs) (s : State) :
    (s.leakedZones [z]).leakedZones zs = s.leakedZones (z :: zs) := by
  obtain ⟨u, hu⟩ : ∃ u, u = s.leakedZones [z] := ⟨_, rfl⟩
  obtain ⟨hol, hsl, -⟩ :
      u.openLeaks = s.openLeaks ∧ u.stuckLeaks = s.stuckLeaks ∧ u.supplyLeaks = s.supplyLeaks := by
    rw [hu]; exact scored_leaks s _ _ _
  have hleak : u.sup.leak = s.sup.leak := by simp only [hu, State.leakedZones, State.scored]
  have hscores : ∀ y, u.sup.openScores[y] = s.openAfterLeak [z] y ∧ u.sup.stuckScores[y] = s.stuckAfterLeak [z] y :=
    fun y => by rw [hu]; exact scored_scores _ _ _ _ _
  have hopenz : ∀ y, s.openAfterLeak [z] y =
      if y = z then leakedScore (s.openLeaks y) s.sup.leak s.sup.openScores[y] else s.sup.openScores[y] :=
    fun y => by simp [State.openAfterLeak]
  have hstuckz : ∀ y, s.stuckAfterLeak [z] y =
      if y = z then leakedScore (s.stuckLeaks y) s.sup.leak s.sup.stuckScores[y] else s.sup.stuckScores[y] :=
    fun y => by simp [State.stuckAfterLeak]
  have hother : ∀ y ∈ zs, y ≠ z := fun y hy e => hz (e ▸ hy)
  have hopen : u.openAfterLeak zs = s.openAfterLeak (z :: zs) := by
    funext y
    simp only [State.openAfterLeak, hol, hleak, (hscores y).1, List.mem_cons]
    by_cases hy : y ∈ zs <;> simp [hy, hother y]
  have hstuck : u.stuckAfterLeak zs = s.stuckAfterLeak (z :: zs) := by
    funext y
    simp only [State.stuckAfterLeak, hsl, hleak, (hscores y).2, List.mem_cons]
    by_cases hy : y ∈ zs <;> simp [hy, hother y]
  have hreports : zs.flatMap u.leakReports = zs.flatMap s.leakReports := List.flatMap_congr fun y hy => by
    simp only [State.leakReports, hol, hsl, hleak, hscores, hopenz, hstuckz, hother y hy, if_false]
  rw [← hu, State.leakedZones, hopen, hstuck, hreports, hu, State.leakedZones, scored_scored,
    ← List.flatMap_append]
  rfl

/-- R110, R111: the scores of a list of zones. -/
theorem forZones_leakZone {zs : List ZoneId} (hzs : zs.Nodup) (s : State) :
    forZones zs leakZone s = s.leakedZones zs := by
  induction zs generalizing s with
  | nil => exact (leakedZones_nil s).symm
  | cons z zs ih =>
    obtain ⟨hz, hzs⟩ := List.nodup_cons.mp hzs
    rw [← leakedZones_cons hz, ← ih hzs, ← leakZone_eq]
    rfl

/-! ### The frame that ends (R110 to R112, R115) -/

/-- R110 to R112, R115: supervision ends a frame, its conditions read as propositions. -/
theorem restartReadings_leakFrame (s : State) : restartReadings (leakFrame s) = s.leaked := by
  have hopen : ∀ z, s.openLeaks z = true ↔ ((s.zone z).state ≠ .faulted ∧ (s.zone z).state ≠ .locked) ∧
      inZones s.sup.openChecked z = true ∧ inZones s.sup.openFailed z = false := fun z => by
    simp [State.openLeaks, State.leaks, and_assoc]
  have hstuck : ∀ z, s.stuckLeaks z = true ↔ ((s.zone z).state ≠ .faulted ∧ (s.zone z).state ≠ .locked) ∧
      inZones s.sup.stuckChecked z = true ∧ inZones s.sup.stuckFailed z = false := fun z => by
    simp [State.stuckLeaks, State.leaks, and_assoc]
  have hsupply : s.supplyLeaks = true ↔ s.sup.supplyChecked = true ∧ s.sup.supplyFailed = false := by
    simp [State.supplyLeaks]
  obtain ⟨-, -, hleaks⟩ : _ ∧ _ ∧ (s.leakedZones allZones).supplyLeaks = s.supplyLeaks := scored_leaks s _ _ _
  have hopens : s.openAfterLeak allZones = fun z => leakedScore (s.openLeaks z) s.sup.leak s.sup.openScores[z] :=
    funext fun z => if_pos (mem_allZones z)
  have hstucks : s.stuckAfterLeak allZones = fun z => leakedScore (s.stuckLeaks z) s.sup.leak s.sup.stuckScores[z] :=
    funext fun z => if_pos (mem_allZones z)
  have hreports : s.leakReports = fun z =>
      leakReport (s.openLeaks z) s.sup.leak s.sup.openScores[z] (.zoneCleared z .openLoad) ++
        leakReport (s.stuckLeaks z) s.sup.leak s.sup.stuckScores[z] (.zoneCleared z .stuckOn) := rfl
  rw [leakFrame, forZones_leakZone allZones_nodup, leakSupply_eq, hleaks]
  simp only [State.leaked, State.leakedZones, State.scored, hopens, hstucks, hreports, leakedScore,
    leakReport, hopen, hstuck, hsupply, clearMarks, restartReadings, offerAll_append]

/-! ### The supply check (R112 to R114) -/

/-- R112, R113: the half-cycle of a drive record fails its supply check. -/
def State.supplyBad (s : State) (d : DriveRecord) : Bool :=
  s.sup.supplyMismatch d.current (meanOf s.sup.readings)

/-- R114: the supply score that a supply check compares with the limit. -/
def State.supplyRaised (s : State) (d : DriveRecord) : Nat :=
  if s.supplyBad d then s.sup.supplyScore + 1 else s.sup.supplyScore

/-- R113, R114: the state after the supply check of a drive record's half-cycle, before the trip of a latch. -/
def State.checkedSupply (s : State) (d : DriveRecord) : State :=
  { s with
    sup := { s.sup with
      supplyScore := if s.sup.limit ≤ s.supplyRaised d then 0 else s.supplyRaised d,
      supplyChecked := true, supplyFailed := s.sup.supplyFailed || s.supplyBad d,
      lastCheck := some { frame := d.frame, h := d.h, expected := d.current, measured := meanOf s.sup.readings,
                          mismatch := s.supplyBad d } },
    reports := s.reports.offerAll
      (if s.supplyBad d = true ∧ s.sup.supplyScore = 0 then [.supplySuspect (meanOf s.sup.readings) d.current 1]
        else []) }

theorem checkSupply_eq (d : DriveRecord) (s : State) : checkSupply d s =
    if s.sup.limit ≤ s.supplyRaised d then (tripEvery .supplyFault (s.checkedSupply d)).1
    else s.checkedSupply d := by
  have hbad : s.sup.supplyMismatch d.current (meanOf s.sup.readings) = s.supplyBad d := rfl
  unfold checkSupply State.checkedSupply State.supplyRaised supplyLatch supplyStrike
  dsimp only
  rw [hbad]
  cases s.supplyBad d with
  | false =>
    simp only [Bool.false_eq_true, if_false, false_and, Bool.or_false, offerAll_nil]
    split <;> rfl
  | true =>
    simp only [if_true, true_and, Bool.or_true]
    by_cases h0 : s.sup.supplyScore = 0
    · simp only [h0, if_true, submit_keeps]
      split <;> rfl
    · simp only [h0, if_false, offerAll_nil]
      split <;> rfl

/-! ### Supervision's part of a crossing -/

/-- R110, R112: supervision's part of a crossing ends with the leak at a boundary, and a new accumulation. -/
def State.endedAt (s : State) (boundary : Bool) : State := if boundary then s.leaked else restartReadings s

theorem restartReadings_endedAt (boundary : Bool) (s : State) :
    restartReadings (if boundary then leakFrame s else s) = s.endedAt boundary := by
  cases boundary
  · rfl
  · exact restartReadings_leakFrame s

theorem supervisionAtCrossing_of_lock {c : Crossing} (h : c.lock = true) (s : State) :
    supervisionAtCrossing c s = s.endedAt c.boundary := by
  rw [← restartReadings_endedAt, supervisionAtCrossing, if_pos h]

theorem supervisionAtCrossing_of_record {c : Crossing} {s : State} {d : DriveRecord} (hl : c.lock = false)
    (hd : s.switch.recordOf c.endedFrame c.endedH = some d) (hs : d.status ≠ .cutShort) :
    supervisionAtCrossing c s = (checkSupply d s).endedAt c.boundary := by
  rw [← restartReadings_endedAt, supervisionAtCrossing, if_neg (c := c.lock = true) (by simp [hl]), hd]
  dsimp only
  rw [if_neg hs]

/-- R112: the mean of the readings, 0 without one. -/
theorem meanOf_eq (readings : List Nat) :
    meanOf readings = if readings = [] then 0 else readings.sum / readings.length := by
  simp [meanOf]

/-- R114, R132: over a sound store the trip of a supply latch is one change of the state. -/
theorem checkSupply_eq_tripOf {s : State} (hs : s.storeSound) (d : DriveRecord) : checkSupply d s =
    if s.sup.limit ≤ s.supplyRaised d then (s.checkedSupply d).tripOf .supplyFault (fun _ => true) []
    else s.checkedSupply d := by
  rw [checkSupply_eq, tripEvery, trip_eq (s := s.checkedSupply d) hs]

end Sys2Proof.Machine
end

section
/-! SUPPORT. What the scores read of a zone: its configuration, and whether it is FAULTED or LOCKED. Of all
operations only the latches, CONFIG_ZONE, DISABLE_ZONE and CLEAR_ZONE change it (R32 to R37). -/

namespace Sys2Proof.Machine

/-! ### A zone as the scores read it -/

/-- A zone's configuration and its latches (R32, R33). -/
structure ZoneLatch where
  cfg : ZoneConfig
  configured : Bool
  faulted : Bool
  locked : Bool

def Zone.latch (v : Zone) : ZoneLatch :=
  { cfg := v.cfg, configured := v.configured, faulted := v.state == .faulted, locked := v.state == .locked }

theorem latch_eq_iff (v w : Zone) : v.latch = w.latch ↔ (v.cfg = w.cfg ∧ v.configured = w.configured) ∧
    (v.state = .faulted ↔ w.state = .faulted) ∧ (v.state = .locked ↔ w.state = .locked) := by
  have hbool : ∀ st : ZoneState, (v.state == st) = (w.state == st) ↔ (v.state = st ↔ w.state = st) := fun st => by
    rw [Bool.eq_iff_iff, beq_iff_eq, beq_iff_eq]
  rw [Zone.latch, Zone.latch, ZoneLatch.mk.injEq, hbool, hbool, and_assoc]

/-- A zone that passes between two states of no latch. -/
theorem latch_of_unlatched {v : Zone} {st : ZoneState} (hf : v.state ≠ .faulted) (hl : v.state ≠ .locked)
    (hf' : st ≠ .faulted) (hl' : st ≠ .locked) (d n : Nat) :
    ({ v with state := st, demand := d, leaseLeft := n } : Zone).latch = v.latch :=
  (latch_eq_iff _ _).mpr ⟨⟨rfl, rfl⟩, iff_of_false hf' hf, iff_of_false hl' hl⟩

theorem unlatched_of_wants {v : Zone} (h : v.wants = true) : v.state ≠ .faulted ∧ v.state ≠ .locked := by
  constructor <;> rintro e <;> simp [Zone.wants, e] at h

theorem idled_latch (v : Zone) : v.idled.latch = v.latch := by
  unfold Zone.idled
  split
  · next h =>
    obtain ⟨hf, hl⟩ := unlatched_of_wants h
    exact latch_of_unlatched hf hl (by decide) (by decide) 0 0
  · rfl

theorem shrunk_latch (v : Zone) (q q' : List Order) : (v.shrunk q q').latch = v.latch := by
  unfold Zone.shrunk Zone.leftWith
  split
  · rfl
  · split
    · next h =>
      obtain ⟨-, hst⟩ := h
      exact latch_of_unlatched (by simp [hst]) (by simp [hst]) (by decide) (by decide) _ _
    · rfl

theorem taking_latch {v : Zone} (h : v.state.refusesOrders = false) : v.taking.latch = v.latch := by
  unfold Zone.taking
  split
  · rfl
  · obtain ⟨hf, hl⟩ : v.state ≠ .faulted ∧ v.state ≠ .locked := by
      constructor <;> intro e <;> simp [e, ZoneState.refusesOrders] at h
    exact latch_of_unlatched hf hl (by decide) (by decide) 0 0

theorem cutTo_latch (len : Nat) (v : Zone) : (v.cutTo len).latch = v.latch := by
  unfold Zone.cutTo
  split <;> rfl

theorem ranDown_latch (len : Nat) (v : Zone) : (v.ranDown len).latch = v.latch := by
  unfold Zone.ranDown
  split
  · next h =>
    split <;> exact latch_of_unlatched (by simp [h]) (by simp [h]) (by decide) (by decide) _ _
  · split
    · rfl
    · rfl

/-! ### Operations that leave every latch -/

/-- Every zone of `t` is configured and latched as in `s`. -/
def State.sameLatches (t s : State) : Prop := ∀ z, (t.zone z).latch = (s.zone z).latch

theorem sameLatches_refl (s : State) : s.sameLatches s := fun _ => rfl

theorem State.sameLatches.trans {u t s : State} (h₂ : u.sameLatches t) (h₁ : t.sameLatches s) : u.sameLatches s :=
  fun z => (h₂ z).trans (h₁ z)

theorem sameLatches_of_zones {t s : State} (h : t.zones = s.zones) : t.sameLatches s := fun z => by
  rw [State.zone, h]
  rfl

theorem State.sameLatches.setup {t s : State} (h : t.sameLatches s) (z : ZoneId) : t.setup z = s.setup z := by
  obtain ⟨⟨hcfg, hconf⟩, -⟩ := (latch_eq_iff _ _).mp (h z)
  exact Prod.ext hcfg hconf

/-- A zone at most withdrawn keeps its latches. -/
theorem latch_of_atMostWithdrawn {t s : State} {z : ZoneId} (hs : t.setup z = s.setup z)
    (h : t.atMostWithdrawn s z) : (t.zone z).latch = (s.zone z).latch := by
  refine (latch_eq_iff _ _).mpr ⟨⟨congrArg Prod.fst hs, congrArg Prod.snd hs⟩, ?_⟩
  rcases h with h | ⟨hw, h⟩
  · rw [h]
    exact ⟨Iff.rfl, Iff.rfl⟩
  · obtain ⟨hf, hl⟩ := unlatched_of_wants hw
    exact ⟨iff_of_false (by simp [h]) hf, iff_of_false (by simp [h]) hl⟩

theorem sameLatches_setZone (s : State) {z : ZoneId} {v : Zone} (hv : v.latch = (s.zone z).latch) :
    (s.setZone z v).sameLatches s := fun y => by
  rw [setZone_zone]
  split
  · next e => exact e ▸ hv
  · rfl

theorem sameLatches_shrinkQueue (s : State) (z : ZoneId) (q : List Order) :
    (s.shrinkQueue z q).sameLatches s := by
  rw [shrinkQueue_eq_setCell]
  intro y
  rw [setCell_zone]
  split
  · next e => exact e ▸ shrunk_latch _ _ _
  · rfl

theorem sameLatches_withdrawGroup (g : GroupId) (r : HaltReason) (s : State) :
    (withdrawGroup g r s).sameLatches s :=
  forZones_induction (State.sameLatches · s) (fun z u hu => State.sameLatches.trans (fun y => by
    rw [withdrawZone_zone]
    split
    · next e => exact e ▸ idled_latch _
    · rfl) hu) _ s (sameLatches_refl s)

theorem sameLatches_trip (cause : TripCause) (named : GroupId → Bool) (ls : List LockedZone) (s : State) :
    (trip cause named ls s).1.sameLatches s := fun z =>
  latch_of_atMostWithdrawn (by simp) (trip_atMostWithdrawn cause named ls s z)

theorem sameLatches_weld (g : GroupId) (cause : WeldCause) (s : State) : (weld g cause s).sameLatches s :=
  (sameLatches_trip _ _ _ _).trans (sameLatches_of_zones (by simp))

/-! ### The takers of a crossing, and the loss -/

theorem sameLatches_checkSupply (d : DriveRecord) (s : State) : (checkSupply d s).sameLatches s := by
  obtain ⟨u, hu, hz, -⟩ := exists_checkSupply d s
  rw [hu, supplyLatch]
  split
  · exact (sameLatches_trip _ _ _ _).trans (sameLatches_of_zones hz)
  · exact sameLatches_of_zones hz

theorem sameLatches_supervisionAtCrossing (c : Crossing) (s : State) :
    (supervisionAtCrossing c s).sameLatches s := by
  obtain ⟨u, hu, he⟩ := exists_supervisionAtCrossing c s
  have checked : u.sameLatches s := by
    rcases hu with rfl | ⟨r, rfl⟩
    · exact sameLatches_refl u
    · exact sameLatches_checkSupply r s
  rw [he]
  exact (sameLatches_of_zones (by split <;> simp)).trans checked

theorem sameLatches_switchAtCrossing (frame : BitVec 32) (len h : Nat) (syn : Bool) (s : State) :
    (switchAtCrossing frame len h syn s).sameLatches s := fun z => by
  have hzone : (switchAtCrossing frame len h syn s).zone z =
      (s.zone z).shrunk (s.queue z) (accountedQueue (s.drivesDose frame len h z) (s.queue z)) := by
    simp [switchAtCrossing_eq, State.zone]
  rw [hzone, shrunk_latch]

theorem sameLatches_zonesAtBoundary (len : Nat) (b : Bool) (s : State) :
    (zonesAtBoundary len b s).sameLatches s := fun z => by
  have hzone : (zonesAtBoundary len b s).zone z =
      (if b then (s.zone z).cutTo len else s.zone z).ranDown len := by simp [zonesAtBoundary_eq, State.zone]
  rw [hzone, ranDown_latch]
  split
  · exact cutTo_latch len _
  · rfl

theorem sameLatches_takeCrossing (c : Crossing) (k : Taker) (s : State) : (takeCrossing c k s).sameLatches s := by
  unfold takeCrossing
  split
  · exact sameLatches_switchAtCrossing _ _ _ _ s
  · exact sameLatches_supervisionAtCrossing c s
  · exact sameLatches_of_zones (by simp)
  · exact sameLatches_of_zones (by simp)
  · split
    · exact sameLatches_zonesAtBoundary _ _ s
    · exact sameLatches_refl s

theorem sameLatches_loseMains (s : State) : (loseMains s).sameLatches s := fun z => by
  have hzone : (loseMains s).zone z = (s.zone z).idled := by simp [loseMains_eq, State.zone]
  rw [hzone, idled_latch]

/-! ### The contactor controller's happenings -/

theorem sameLatches_auxHandled (g : GroupId) (s : State) : (auxHandled g s).sameLatches s := by
  unfold auxHandled
  split
  · exact sameLatches_of_zones (by simp)
  · exact sameLatches_of_zones (by simp)
  · split
    · exact sameLatches_of_zones rfl
    · exact sameLatches_refl s
  · split
    · exact sameLatches_refl s
    · exact sameLatches_trip _ _ _ s
  · exact sameLatches_of_zones (by simp)
  · exact sameLatches_of_zones (by simp)
  · exact sameLatches_refl s

theorem sameLatches_auxChange (g : GroupId) (s : State) : (auxChange g s).sameLatches s := by
  unfold auxChange
  split
  · exact sameLatches_refl s
  · exact (sameLatches_auxHandled g _).trans (sameLatches_of_zones (by simp))

theorem sameLatches_stopChange (s : State) : (stopChange s).sameLatches s := by
  unfold stopChange
  split
  · exact sameLatches_refl s
  · dsimp only
    split
    · exact (sameLatches_trip _ _ _ _).trans (sameLatches_of_zones (by simp))
    · exact sameLatches_of_zones (by simp)

theorem sameLatches_openExpired (g : GroupId) (s : State) : (openExpired g s).sameLatches s := by
  unfold openExpired
  split
  · exact sameLatches_weld g _ s
  · exact sameLatches_refl s

theorem sameLatches_verifyExpired (g : GroupId) (s : State) : (verifyExpired g s).sameLatches s := by
  unfold verifyExpired
  split
  · exact sameLatches_of_zones (by simp)
  · exact sameLatches_weld g _ s

/-! ### Requests -/

theorem sameLatches_openGroup (g : GroupId) (s : State) : (answerOpenGroup g s).state.sameLatches s := by
  have opened : ∀ v, (testOpening g (withdrawGroup g .groupOpened (s.setGroup g v))).sameLatches s := fun v =>
    (sameLatches_of_zones (by simp)).trans
      ((sameLatches_withdrawGroup g .groupOpened (s.setGroup g v)).trans (sameLatches_of_zones rfl))
  unfold answerOpenGroup
  split
  · rw [openFromClosed_eq]
    exact opened _
  · rw [openFromClosing_eq]
    exact opened _
  all_goals exact sameLatches_refl s

theorem sameLatches_enableZone (z : ZoneId) (s : State) : (answerEnableZone z s).state.sameLatches s := by
  unfold answerEnableZone
  split
  · next hst =>
    split
    · exact sameLatches_setZone s (latch_of_unlatched (by simp [hst]) (by simp [hst]) (by decide) (by decide) 0 0)
    · exact sameLatches_refl s
  · exact sameLatches_refl s

theorem sameLatches_setDemand {z : ZoneId} {s : State} (hf : (s.zone z).state ≠ .faulted)
    (hl : (s.zone z).state ≠ .locked) (d : Nat) : (s.setDemand z d).sameLatches s := by
  unfold State.setDemand
  split
  · exact sameLatches_setZone s (latch_of_unlatched hf hl (by decide) (by decide) 0 0)
  · exact sameLatches_setZone s (latch_of_unlatched hf hl (by decide) (by decide) _ _)

theorem sameLatches_answerSetDemand (z : ZoneId) (d : Nat) (s : State) :
    (answerSetDemand z d s).state.sameLatches s := by
  unfold answerSetDemand
  split
  · next hst => exact sameLatches_setDemand (by simp [hst]) (by simp [hst]) d
  · next hst => exact sameLatches_setDemand (by simp [hst]) (by simp [hst]) d
  all_goals exact sameLatches_refl s

theorem sameLatches_queueOrder (z : ZoneId) (tag : Half) (total cap : Nat) (s : State) :
    (answerQueueOrder z tag total cap s).state.sameLatches s := by
  unfold answerQueueOrder
  split
  · exact sameLatches_refl s
  · next hr =>
    split
    · exact sameLatches_refl s
    · split
      · exact sameLatches_refl s
      · rw [appendOrder_eq]
        exact sameLatches_setZone s (taking_latch (Bool.eq_false_of_not_eq_true hr))

theorem sameLatches_abortOrder (z : ZoneId) (tag : Half) (s : State) :
    (answerAbortOrder z tag s).state.sameLatches s := by
  unfold answerAbortOrder
  split
  · exact sameLatches_refl s
  · split
    · split
      · exact sameLatches_refl s
      · exact sameLatches_shrinkQueue s z _
      · exact sameLatches_of_zones rfl
    · unfold abortBehind
      split
      · exact sameLatches_refl s
      · exact sameLatches_shrinkQueue s z _

end Sys2Proof.Machine
end

section
/-! SUPPORT. The scores and the latches of the zones: a score stands at its limit only while the zone is latched,
and no operation breaks that (R105 to R111). Settles O9. -/

namespace Sys2Proof.Machine

/-! ### The scores of one zone -/

/-- R108, R109: the two scores of a zone, its limits and its latches. -/
def Zone.fits (v : Zone) (opn stk : Nat) : Prop :=
  (1 ≤ v.cfg.openLimit ∧ 1 ≤ v.cfg.stuckLimit) ∧ opn ≤ v.cfg.openLimit ∧
  (opn = v.cfg.openLimit → v.state = .faulted ∨ v.state = .locked) ∧
  (v.state = .faulted → opn = v.cfg.openLimit) ∧ stk ≤ v.cfg.stuckLimit ∧
  (stk = v.cfg.stuckLimit ↔ v.state = .locked)

theorem Zone.fits.congr {v w : Zone} {opn stk : Nat} (h : v.fits opn stk) (e : w.latch = v.latch) :
    w.fits opn stk := by
  obtain ⟨⟨hcfg, -⟩, hf, hl⟩ := (latch_eq_iff _ _).mp e
  simpa only [Zone.fits, hcfg, hf, hl] using h

/-- A zone without a latch whose scores are below their limits. -/
theorem fits_of_unlatched {v : Zone} {opn stk : Nat} (hf : v.state ≠ .faulted) (hl : v.state ≠ .locked)
    (hopn : opn < v.cfg.openLimit) (hstk : stk < v.cfg.stuckLimit) : v.fits opn stk :=
  ⟨⟨by omega, by omega⟩, by omega, fun e => by omega, fun e => absurd e hf, by omega,
    iff_of_false (by omega) hl⟩

theorem Zone.fits.below {v : Zone} {opn stk : Nat} (h : v.fits opn stk) (hf : v.state ≠ .faulted)
    (hl : v.state ≠ .locked) : opn < v.cfg.openLimit ∧ stk < v.cfg.stuckLimit := by
  obtain ⟨-, hopn, hlatched, -, hstk, hlocked⟩ := h
  exact ⟨Nat.lt_of_le_of_ne hopn fun e => (hlatched e).elim hf hl, Nat.lt_of_le_of_ne hstk (mt hlocked.mp hl)⟩

/-- R111: only the scores of a zone without a latch leak. -/
theorem Zone.fits.leaked {v : Zone} {opn stk leak : Nat} {p q : Prop} [Decidable p] [Decidable q]
    (h : v.fits opn stk) (hp : p → v.state ≠ .faulted ∧ v.state ≠ .locked)
    (hq : q → v.state ≠ .faulted ∧ v.state ≠ .locked) :
    v.fits (if p then opn - leak else opn) (if q then stk - leak else stk) := by
  by_cases hv : v.state ≠ .faulted ∧ v.state ≠ .locked
  · obtain ⟨hf, hl⟩ := hv
    obtain ⟨hlo, hls⟩ := h.below hf hl
    exact fits_of_unlatched hf hl (by split <;> omega) (by split <;> omega)
  · rwa [if_neg (mt hp hv), if_neg (mt hq hv)]

/-! ### The scores of a state -/

/-- R108, R109: the scores that a state holds for a zone fit its record. -/
def State.fitsAt (s : State) (z : ZoneId) : Prop := (s.zone z).fits s.sup.openScores[z] s.sup.stuckScores[z]

/-- R114, R115: the settings of supervision lie in their ranges. -/
def Supervision.ranged (u : Supervision) : Prop :=
  (1 ≤ u.limit ∧ u.limit ≤ 255) ∧ u.leak ≤ 15 ∧ u.offset ≤ 500 ∧ u.percent ≤ 50

/-- `scoresSound` with limits of at least 1. -/
def State.scoresFit (s : State) : Prop :=
  (∀ z, s.fitsAt z) ∧ s.sup.ranged ∧ s.sup.supplyScore ≤ 255

theorem scoresFit_of_sound {s : State} (hz : s.zonesSound) (h : s.scoresSound) : s.scoresFit := by
  obtain ⟨hcells, -⟩ := hz
  obtain ⟨hscores, hlimit, hscore, hleak, hoffset, hpercent⟩ := h
  refine ⟨fun z => ?_, ⟨hlimit, hleak, hoffset, hpercent⟩, hscore⟩
  obtain ⟨⟨-, -, -, -, ⟨hopn, -⟩, ⟨hstk, -⟩⟩, -⟩ := hcells z
  exact ⟨⟨hopn, hstk⟩, hscores z⟩

theorem State.scoresFit.sound {s : State} (h : s.scoresFit) : s.scoresSound := by
  obtain ⟨hfit, ⟨hlimit, hleak, hoffset, hpercent⟩, hscore⟩ := h
  exact ⟨fun z => (hfit z).2, hlimit, hscore, hleak, hoffset, hpercent⟩

/-- An operation that leaves supervision, and every zone's configuration and latches. -/
theorem State.scoresFit.same {s t : State} (h : s.scoresFit) (hl : t.sameLatches s) (hu : t.sup = s.sup) :
    t.scoresFit := by
  obtain ⟨hfit, hrest⟩ := h
  refine ⟨fun z => ?_, hu ▸ hrest⟩
  rw [State.fitsAt, hu]
  exact (hfit z).congr (hl z)

theorem State.scoresFit.ofZones {s t : State} (h : s.scoresFit) (hz : t.zones = s.zones) (hu : t.sup = s.sup) :
    t.scoresFit := h.same (sameLatches_of_zones hz) hu

/-- R108: a zone's scores are zeroed as it comes to a record without a latch. -/
theorem State.scoresFit.zeroed {s u : State} {z : ZoneId} {v : Zone} (h : s.scoresFit) (hu : u.sup = s.sup)
    (hz : ∀ y, u.zone y = if y = z then v else s.zone y) (hf : v.state ≠ .faulted) (hl : v.state ≠ .locked)
    (hv : 1 ≤ v.cfg.openLimit ∧ 1 ≤ v.cfg.stuckLimit) : (zeroScores z u).scoresFit := by
  obtain ⟨hfit, hrest⟩ := h
  refine ⟨fun y => ?_, by rw [← hu] at hrest; exact hrest⟩
  have hzone : (zeroScores z u).zone y = if y = z then v else s.zone y := hz y
  rw [State.fitsAt, hzone]
  by_cases e : y = z
  · subst e
    simpa [zeroScores] using fits_of_unlatched hf hl hv.1 hv.2
  · have hne : z.val ≠ y.val := fun h => e (Fin.ext h.symm)
    simpa [zeroScores, hu, e, hne, State.fitsAt] using hfit y

/-! ### The point of a half-cycle (R105 to R107) -/

theorem State.Beside.fitsAt {t s : State} {z : ZoneId} (hb : t.Beside s z) (h : s.fitsAt z) : t.fitsAt z := by
  have hopn : t.sup.openScores[z] = s.sup.openScores[z] := congrArg Scoring.openScore hb.scoring
  have hstk : t.sup.stuckScores[z] = s.sup.stuckScores[z] := congrArg Scoring.stuckScore hb.scoring
  rw [State.fitsAt, hopn, hstk]
  exact h.congr (latch_of_atMostWithdrawn hb.setup hb.state)

theorem fitsAt_of_views {s t : State} {z : ZoneId} (hz : (t.zone z).latch = (s.zone z).latch) (hu : t.sup = s.sup)
    (h : s.fitsAt z) : t.fitsAt z := by
  rw [State.fitsAt, hu]
  exact h.congr hz

theorem takenOut_fitsAt {z : ZoneId} {st : ZoneState} {r : HaltReason} {s : State}
    (h : ({ s.zone z with state := st, demand := 0, leaseLeft := 0 } : Zone).fits s.sup.openScores[z]
      s.sup.stuckScores[z]) : (s.takenOut z st r).fitsAt z := by
  rw [State.fitsAt, takenOut_zone, if_pos rfl]
  exact h

theorem openRaised_fitsAt {z : ZoneId} {s : State} (h : (s.zone z).fits (s.sup.openScores[z] + 1)
    s.sup.stuckScores[z]) : (s.openRaised z).fitsAt z := by
  simpa [State.fitsAt, State.openRaised, State.zone] using h

theorem stuckRaised_fitsAt {z : ZoneId} {s : State} (h : (s.zone z).fits s.sup.openScores[z]
    (s.sup.stuckScores[z] + 1)) : (s.stuckRaised z).fitsAt z := by
  simpa [State.fitsAt, State.stuckRaised, State.zone] using h

/-- R32: the open-load latch, as the score reaches its limit. -/
theorem openStrike_fitsAt {z : ZoneId} {s : State} (h : s.fitsAt z) : (openStrike z s).fitsAt z := by
  obtain ⟨hmax, hraise, hserving, hdisabled, hlatch⟩ := openStrike_cases z s
  have hbelow := Zone.fits.below h
  obtain ⟨hlimits, hle, hlatched, hfaulted, hstk, hlocked⟩ := h
  have raised : s.sup.openScores[z] + 1 = (s.zone z).cfg.openLimit →
      (s.zone z).state = .faulted ∨ (s.zone z).state = .locked → (s.openRaised z).fitsAt z := fun hn hv =>
    openRaised_fitsAt ⟨hlimits, by omega, fun _ => hv, fun _ => hn, hstk, hlocked⟩
  have serving : s.sup.openScores[z] + 1 = (s.zone z).cfg.openLimit →
      (s.zone z).state = .idle ∨ (s.zone z).state = .demand ∨ (s.zone z).state = .dosing →
      (openStrike z s).fitsAt z := fun hn hv => by
    obtain ⟨hf, hl⟩ : (s.zone z).state ≠ .faulted ∧ (s.zone z).state ≠ .locked := by
      rcases hv with hv | hv | hv <;> simp [hv]
    obtain ⟨-, hlt⟩ := hbelow hf hl
    rw [hserving hn hv]
    refine fitsAt_of_views (s := (s.openRaised z).takenOut z .faulted .zoneFault) (by simp) (by simp) ?_
    refine takenOut_fitsAt (s := s.openRaised z) ⟨hlimits, ?_⟩
    simp only [State.openRaised, Fin.getElem_fin, Vector.getElem_set_self]
    exact ⟨Nat.le_of_eq hn, fun _ => .inl trivial, fun _ => hn, hstk, iff_of_false (Nat.ne_of_lt hlt) nofun⟩
  rcases Nat.lt_trichotomy (s.sup.openScores[z] + 1) (s.zone z).cfg.openLimit with hn | hn | hn
  · rw [hraise hn]
    exact openRaised_fitsAt ⟨hlimits, by omega, fun e => by omega,
      fun e => absurd (hfaulted e) (by omega), hstk, hlocked⟩
  · cases hv : (s.zone z).state with
    | disabled =>
      obtain ⟨-, hlt⟩ := hbelow (by simp [hv]) (by simp [hv])
      rw [hdisabled hn hv]
      have hzero : (s.zone z).fits 0 s.sup.stuckScores[z] :=
        fits_of_unlatched (by simp [hv]) (by simp [hv]) hlimits.1 hlt
      simpa [State.fitsAt, State.openRaised, State.zone] using hzero
    | idle => exact serving hn (.inl hv)
    | demand => exact serving hn (.inr (.inl hv))
    | dosing => exact serving hn (.inr (.inr hv))
    | faulted => exact hlatch hn (.inl hv) ▸ raised hn (.inl hv)
    | locked => exact hlatch hn (.inr hv) ▸ raised hn (.inr hv)
  · rw [hmax (by omega)]
    exact ⟨hlimits, hle, hlatched, hfaulted, hstk, hlocked⟩

/-- R33: the stuck-on latch, as the score reaches its limit. -/
theorem stuckOnLatch_fitsAt {z : ZoneId} {s : State} (hl : (s.zone z).state ≠ .locked)
    (h : ({ s.zone z with state := .locked, demand := 0, leaseLeft := 0 } : Zone).fits s.sup.openScores[z]
      s.sup.stuckScores[z]) : (stuckOnLatch z s).fitsAt z := by
  rw [stuckOnLatch_eq hl]
  refine fitsAt_of_views (s := s.takenOut z .locked .zoneLocked) ?_ (by simp) (takenOut_fitsAt h)
  simpa using latch_of_atMostWithdrawn (stuckOnTrip_setup z _ z) (stuckOnTrip_atMostWithdrawn z z _)

theorem stuckStrike_fitsAt {z : ZoneId} {s : State} (h : s.fitsAt z) : (stuckStrike z s).fitsAt z := by
  obtain ⟨hlimits, hle, hlatched, hfaulted, hstk, hlocked⟩ := h
  rw [stuckStrike_eq]
  split
  · next hlt =>
    have hl : (s.zone z).state ≠ .locked := fun e => absurd (hlocked.mpr e) (Nat.ne_of_lt hlt)
    split
    · next hn =>
      refine stuckOnLatch_fitsAt (s := s.stuckRaised z) hl ⟨hlimits, ?_⟩
      simp only [State.stuckRaised, Fin.getElem_fin, Vector.getElem_set_self]
      exact ⟨hle, fun _ => .inr trivial, nofun, Nat.le_of_eq hn, iff_of_true hn trivial⟩
    · next hn =>
      exact stuckRaised_fitsAt ⟨hlimits, hle, hlatched, hfaulted, hlt, iff_of_false hn hl⟩
  · exact ⟨hlimits, hle, hlatched, hfaulted, hstk, hlocked⟩

theorem applyCheck_fitsAt {z : ZoneId} {s : State} (c : CheckResult) (h : s.fitsAt z) :
    (applyCheck z c s).fitsAt z := by
  have marked : ∀ b, (markOpen z b s).fitsAt z ∧ (markStuck z b s).fitsAt z := fun _ => ⟨h, h⟩
  unfold applyCheck
  split
  · exact h
  · split
    · exact openStrike_fitsAt (marked true).1
    · exact (marked false).1
  · split
    · exact stuckStrike_fitsAt (marked true).2
    · exact (marked false).2

/-- R105 to R107: the point, zone by zone. -/
theorem State.scoresFit.midPoint {s : State} (h : s.scoresFit) (cs : ZoneSet) (first : Bool) :
    (midPoint cs first s).scoresFit := by
  obtain ⟨hfit, hrest⟩ := h
  refine ⟨fun z => ?_, ?_⟩
  · obtain ⟨b, hb, ht⟩ := midPoint_around cs first s z
    exact ht.fitsAt (applyCheck_fitsAt _ (hb.fitsAt (hfit z)))
  · rw [eq_of_unscored_eq (midPoint_unscored cs first)]
    exact hrest

/-! ### The crossings (R110 to R115) -/

/-- R111, R115: the leak of a frame. -/
theorem State.scoresFit.leaked {s : State} (h : s.scoresFit) : s.leaked.scoresFit := by
  obtain ⟨hfit, hrest, hscore⟩ := h
  refine ⟨fun z => ?_, ?_, ?_⟩
  · have hzone : s.leaked.zone z = s.zone z := by simp only [State.leaked, State.zone]
    rw [State.fitsAt, hzone]
    simp only [State.leaked, Fin.getElem_fin, Vector.getElem_ofFn]
    exact (hfit z).leaked And.left And.left
  · simpa only [Supervision.ranged, State.leaked] using hrest
  · simp only [State.leaked]
    split <;> omega

theorem State.scoresFit.checkSupply {s : State} (h : s.scoresFit) (d : DriveRecord) :
    (checkSupply d s).scoresFit := by
  have hchecked : (s.checkedSupply d).scoresFit := by
    obtain ⟨hfit, hrest, hscore⟩ := h
    obtain ⟨⟨-, hlimit⟩, -⟩ := id hrest
    refine ⟨hfit, hrest, ?_⟩
    simp only [State.checkedSupply]
    split <;> omega
  rw [checkSupply_eq]
  split
  · exact hchecked.same (sameLatches_trip _ _ _ _) (by simp [tripEvery])
  · exact hchecked

theorem State.scoresFit.supervisionAtCrossing {s : State} (h : s.scoresFit) (c : Crossing) :
    (supervisionAtCrossing c s).scoresFit := by
  obtain ⟨u, hu, he⟩ := exists_supervisionAtCrossing c s
  have checked : u.scoresFit := by
    rcases hu with rfl | ⟨d, rfl⟩
    · exact h
    · exact h.checkSupply d
  rw [he, restartReadings_endedAt, State.endedAt]
  split
  · exact checked.leaked
  · exact checked

/-- R110: at a crossing only supervision changes itself. -/
theorem takeCrossing_sup {c : Crossing} {k : Taker} (hk : k ≠ .supervision) (s : State) :
    (Machine.takeCrossing c k s).sup = s.sup := by
  cases k with
  | supervision => exact absurd rfl hk
  | zoneTable => unfold Machine.takeCrossing; dsimp only; split <;> simp
  | _ => simp [Machine.takeCrossing]

theorem State.scoresFit.takeCrossing {s : State} (h : s.scoresFit) (c : Crossing) (k : Taker) :
    (takeCrossing c k s).scoresFit := by
  by_cases hk : k = .supervision
  · exact hk ▸ h.supervisionAtCrossing c
  · exact h.same (sameLatches_takeCrossing c k s) (takeCrossing_sup hk s)

theorem State.scoresFit.handOn {s : State} (h : s.scoresFit) (c : Crossing) (order : List Taker) :
    (handOn order c s).scoresFit :=
  handOn_induction (P := State.scoresFit) (fun k _ hu => hu.takeCrossing c k) order h

end Sys2Proof.Machine
end

section
/-! SUPPORT. The requests and the scores: four of them write a score, a limit or a setting of supervision
(R19, R21, R36, R37, R118), the others leave them. Settles O9. -/

namespace Sys2Proof.Machine

/-- The requests that may write supervision or a zone's configuration and latches. -/
def Request.rescores : Request → Bool
  | .configZone .. => true
  | .disableZone _ => true
  | .clearZone _ => true
  | .setSupervision .. => true
  | _ => false

theorem answer_sup {r : Request} (h : r.rescores = false) (s : State) : (answer r s).state.sup = s.sup := by
  cases r with
  | configZone | disableZone | clearZone | setSupervision => exact Bool.noConfusion h
  | closeGroup g =>
    rcases answerCloseGroup_cases (groupNumber g) s with e | ⟨-, e⟩
    · exact (congrArg State.sup e :)
    · exact (congrArg State.sup e :)
  | ackTrip g =>
    rcases answerAckTrip_cases (groupNumber g) s with e | ⟨-, e⟩
    · exact (congrArg State.sup e :)
    · exact (congrArg State.sup e :)
  | readTripRecord n => exact (congrArg State.sup (answerReadTripRecord_state n s) :)
  | releaseTripRecord n =>
    obtain ⟨t, e⟩ := answerReleaseTripRecord_state n s
    exact (congrArg State.sup e :)
  | clearTally x => simp only [answer, answerClearTally, State.grant]
  | setFrame | enableZone | setDemand | queueOrder | abortOrder | openGroup | tripAll =>
    simp only [answer, answerSetFrame, answerEnableZone, answerSetDemand, answerQueueOrder, answerAbortOrder,
      abortBehind, answerOpenGroup, answerTripAll, State.setDemand, appendOrder_eq]
    (repeat' split) <;> simp [State.grant, State.deny, State.grantDemand, State.grantGroup]
  | _ => rfl

theorem answer_sameLatches {r : Request} (h : r.rescores = false) (s : State) :
    (answer r s).state.sameLatches s := by
  cases r with
  | configZone | disableZone | clearZone | setSupervision => exact Bool.noConfusion h
  | enableZone z => exact sameLatches_enableZone _ s
  | setDemand z d => exact sameLatches_answerSetDemand _ _ s
  | queueOrder z t n c => exact sameLatches_queueOrder _ _ _ _ s
  | abortOrder z t => exact sameLatches_abortOrder _ _ s
  | openGroup g => exact sameLatches_openGroup _ s
  | tripAll => exact sameLatches_trip _ _ _ s
  | closeGroup g =>
    rcases answerCloseGroup_cases (groupNumber g) s with e | ⟨-, e⟩
    · exact sameLatches_of_zones (congrArg State.zones e :)
    · exact sameLatches_of_zones (congrArg State.zones e :)
  | ackTrip g =>
    rcases answerAckTrip_cases (groupNumber g) s with e | ⟨-, e⟩
    · exact sameLatches_of_zones (congrArg State.zones e :)
    · exact sameLatches_of_zones (congrArg State.zones e :)
  | readTripRecord n => exact sameLatches_of_zones (congrArg State.zones (answerReadTripRecord_state n s) :)
  | releaseTripRecord n =>
    obtain ⟨t, e⟩ := answerReleaseTripRecord_state n s
    exact sameLatches_of_zones (congrArg State.zones e :)
  | setFrame l =>
    refine sameLatches_of_zones ?_
    simp only [answer, answerSetFrame]
    (repeat' split) <;> rfl
  | clearTally x => exact sameLatches_of_zones (by simp [answer, answerClearTally, State.grant])
  | _ => exact sameLatches_refl s

theorem State.scoresFit.configZone {s : State} (h : s.scoresFit) (z : ZoneId) {cfg : ZoneConfig}
    (hcfg : 1 ≤ cfg.openLimit ∧ 1 ≤ cfg.stuckLimit) : (answerConfigZone z cfg s).state.scoresFit := by
  unfold answerConfigZone
  split
  · next hst =>
    exact h.zeroed (v := { s.zone z with cfg := cfg, configured := true }) rfl (fun y => setZone_zone s z y _)
      (by simp [hst]) (by simp [hst]) hcfg
  · exact h

theorem State.scoresFit.limits {s : State} (h : s.scoresFit) (z : ZoneId) :
    1 ≤ (s.zone z).cfg.openLimit ∧ 1 ≤ (s.zone z).cfg.stuckLimit := by
  obtain ⟨hfit, -⟩ := h
  exact (hfit z).1

theorem State.scoresFit.disableZone {s : State} (h : s.scoresFit) (z : ZoneId) :
    (answerDisableZone z s).state.scoresFit := by
  by_cases hl : (s.zone z).state = .locked
  · rw [answerDisableZone, hl]
    exact h
  by_cases hd : (s.zone z).state = .disabled
  · rw [answerDisableZone, hd]
    exact h
  rw [answerDisableZone_taken hl hd]
  exact h.zeroed (v := { s.zone z with state := .disabled, demand := 0, leaseLeft := 0 }) rfl
    (fun y => takenOut_zone s z y _ _) nofun nofun (h.limits z)

theorem State.scoresFit.clearZone {s : State} (h : s.scoresFit) (z : ZoneId) :
    (answerClearZone z s).state.scoresFit := by
  rw [answerClearZone_eq]
  split
  · exact h.zeroed (v := { s.zone z with state := .idle, demand := 0, leaseLeft := 0 }) rfl
      (fun y => setZone_zone s z y _) nofun nofun (h.limits z)
  · split <;> exact h

theorem State.scoresFit.answer {s : State} (h : s.scoresFit) (r : Request) (hr : r.inRange s.mtu.len = true) :
    (answer r s).state.scoresFit := by
  cases hw : r.rescores with
  | false => exact h.same (answer_sameLatches hw s) (answer_sup hw s)
  | true =>
    cases r with
    | configZone z g c p o l f ol sl =>
      simp only [Request.inRange, Bool.and_eq_true, within_iff] at hr
      obtain ⟨⟨-, hol, -⟩, hsl, -⟩ := hr
      exact h.configZone _ ⟨hol, hsl⟩
    | disableZone z => exact h.disableZone _
    | clearZone z => exact h.clearZone _
    | setSupervision l o p m =>
      simp only [Request.inRange, Bool.and_eq_true, within_iff] at hr
      obtain ⟨⟨⟨⟨-, hleak⟩, -, hoffset⟩, -, hpercent⟩, hlimit⟩ := hr
      obtain ⟨hfit, -, hscore⟩ := h
      exact ⟨hfit, ⟨hlimit, hleak, hoffset, hpercent⟩, hscore⟩
    | _ => exact Bool.noConfusion hw

/-! ### Every command -/

theorem openExpired_sup (g : GroupId) (s : State) : (openExpired g s).sup = s.sup := by
  unfold openExpired
  split <;> simp

theorem verifyExpired_sup (g : GroupId) (s : State) : (verifyExpired g s).sup = s.sup := by
  unfold verifyExpired
  split <;> simp

theorem blank_scoresFit (now : Nat) (b : Straps) (raw : Vector Bool 4) (stop : Bool) (store : TripStore)
    (pending : List Instr) : (State.blank now b raw stop store pending).scoresFit := by
  refine ⟨fun z => ?_, ?_, ?_⟩
  · simp [State.fitsAt, Zone.fits, State.blank, State.zone, Zone.reset, Supervision.reset]
  · simp [Supervision.ranged, State.blank, Supervision.reset]
  · simp [State.blank, Supervision.reset]

/-- R105 to R115: what each part of a command keeps of the scores. -/
theorem scoresFit_keptByParts : KeptByParts State.scoresFit where
  frame := fun ⟨_, hz, _, _, _, hu, _⟩ h => h.ofZones hz hu
  power := fun _ _ _ _ _ => blank_scoresFit _ _ _ _ _ _
  pin := fun _ _ _ _ _ _ => blank_scoresFit _ _ _ _ _ _
  retime := fun _ _ _ _ _ h => h
  lock := by
    intro s order _ _ _ h
    exact State.scoresFit.handOn (h.ofZones (by simp) (by simp)) _ order
  cross := by
    intro s order _ _ _ _ h
    exact State.scoresFit.handOn (h.ofZones (by simp) (by simp)) _ order
  lose := fun _ h => h.same (sameLatches_loseMains _) (by simp)
  point := fun cs first _ h => h.midPoint cs first
  reading := by
    intro s v h
    unfold takeReading
    split
    · exact h
    · exact h
  raw := fun line level h => h.ofZones (by cases line <;> rfl) (by cases line <;> rfl)
  aux := fun g h => h.same (sameLatches_auxChange g _) (by simp)
  stop := fun h => h.same (sameLatches_stopChange _) (by simp)
  closeTimer := fun g _ h => h.ofZones (by simp) (by simp)
  releaseTimer := fun g _ h => h.ofZones (by simp) (by simp)
  openTimer := fun g _ h => h.same (sameLatches_openExpired g _) (openExpired_sup g _)
  verifyTimer := fun g _ h => h.same (sameLatches_verifyExpired g _) (verifyExpired_sup g _)
  stuckTimer := fun g _ h => h.same (sameLatches_weld g _ _) (by simp)
  answered := fun r _ hr h => h.answer r hr

/-- Settles O9: every step keeps what the parts of its command keep. -/
theorem stepKeepsTheScoresSound : Obligations.StepKeepsTheScoresSound := by
  intro s t hs h
  obtain ⟨hm, hz, -, -, hscores, -⟩ := hs
  exact (scoresFit_keptByParts.step hm (scoresFit_of_sound hz hscores) h).sound

end Sys2Proof.Machine
end

section
/-! SUPPORT. What a trip leaves of the groups that it takes, and its record in a store with an empty slot (R133,
R151). -/

namespace Sys2Proof.Machine

/-- R133: a group that a trip takes. -/
theorem tripOf_group_of_hit {s : State} {named : GroupId → Bool} {g : GroupId} (hg : s.hitBy named g = true)
    (cause : TripCause) (ls : List LockedZone) :
    ((s.tripOf cause named ls).group g).coil = false ∧ ((s.tripOf cause named ls).group g).releasePending = false ∧
    ((s.tripOf cause named ls).group g).state = if s.verified g then .tripped else .tripping := by
  have h : ¬ ∀ g, s.hitBy named g = false := fun h => Bool.false_ne_true ((h g).symm.trans hg)
  have hgroup : (s.tripOf cause named ls).group g = { s.group g with
      state := if s.verified g then .tripped else .tripping, coil := false, releasePending := false,
      timer := if s.verified g then none else some { kind := .verify, expiry := s.now + s.gcc.verifyWindow * 100 },
      record := (s.store.create (s.recordOf cause (s.hitBy named) ls .pending)).2.1 } := by
    have htrip : s.tripOf cause named ls = _ := if_neg h
    rw [htrip]
    simp only [State.group, Fin.getElem_fin, Vector.getElem_ofFn]
    exact if_pos hg
  rw [hgroup]
  exact ⟨rfl, rfl, rfl⟩

/-- R133, R151: a trip that finds an empty slot makes its record there. -/
theorem exists_record_of_tripOf {s : State} (hs : s.storeSound) {named : GroupId → Bool}
    (hhit : ¬ ∀ g, s.hitBy named g = false) (hlen : s.store.records.length < 8) (cause : TripCause)
    (ls : List LockedZone) : ∃ r ∈ (s.tripOf cause named ls).store.records,
      r.number ≠ 0 ∧ r.cause = cause ∧ r.lockedZones = ls ∧ ∀ g, inGroups r.groups g = s.hitBy named g := by
  let n := s.store.newNumber
  let new : TripRecord := { s.recordOf cause (s.hitBy named) ls .pending with number := n }
  let verified := allGroups.filter fun g => s.hitBy named g && s.verified g
  have hcreate : s.store.create (s.recordOf cause (s.hitBy named) ls .pending) =
      ({ s.store with records := s.store.records ++ [new], next := nextNumber n }, n, none) := if_pos hlen
  have hstore : (s.tripOf cause named ls).store =
      TripStore.update { s.store with records := s.store.records ++ [new], next := nextNumber n } n
        (·.clearing verified) := by
    have hmade := clearing_made hs cause (s.hitBy named) s.verified ls
    rw [hcreate] at hmade
    refine Eq.trans ?_ hmade.symm
    have htrip : s.tripOf cause named ls = _ := if_neg hhit
    rw [htrip, ← hcreate]
    rfl
  have hnew : new.clearing verified ∈ (s.tripOf cause named ls).store.records := by
    rw [hstore]
    exact List.mem_map.mpr ⟨new, List.mem_append_right _ List.mem_cons_self, if_pos rfl⟩
  obtain ⟨-, -, -, hnext, -⟩ := hs
  exact ⟨_, hnew, freeNumber_ne_zero _ _ hnext, rfl, rfl, fun g => inGroups_groupSet _ g⟩

end Sys2Proof.Machine
end

section
/-! SUPPORT. A crossing as supervision takes it: in whatever order the other blocks take it, supervision finds what it
reads, and leaves what they do not write (R110, log entry 27). -/

namespace Sys2Proof.Machine

/-! ### What the other blocks leave (R93, R128) -/

/-- Supervision finds `t` as it finds `s`: the other blocks write no clock, no mains timing, no score, no trip record
and no latch, and of a group only the coil and timer of its release. -/
structure State.SupervisedAs (t s : State) : Prop where
  now : t.now = s.now
  mtu : t.mtu = s.mtu
  sup : t.sup = s.sup
  store : t.store = s.store
  latches : t.sameLatches s
  group : ∀ g, (t.group g).state = (s.group g).state ∧ (t.group g).aux = (s.group g).aux ∧
    (t.group g).record = (s.group g).record
  settled : ∀ g, (s.group g).state ≠ .opening → t.group g = s.group g

theorem supervisedAs_of_gcc {s t : State} (hn : t.now = s.now) (hm : t.mtu = s.mtu) (hu : t.sup = s.sup)
    (hr : t.store = s.store) (hl : t.sameLatches s) (hg : t.gcc = s.gcc) : t.SupervisedAs s := by
  have hgroup : ∀ g, t.group g = s.group g := fun g => by rw [State.group, hg]; rfl
  exact ⟨hn, hm, hu, hr, hl, fun g => by rw [hgroup]; exact ⟨rfl, rfl, rfl⟩, fun g _ => hgroup g⟩

theorem supervisedAs_refl (s : State) : s.SupervisedAs s :=
  supervisedAs_of_gcc rfl rfl rfl rfl (sameLatches_refl s) rfl

theorem State.SupervisedAs.trans {u t s : State} (h₂ : u.SupervisedAs t) (h₁ : t.SupervisedAs s) :
    u.SupervisedAs s where
  now := h₂.now.trans h₁.now
  mtu := h₂.mtu.trans h₁.mtu
  sup := h₂.sup.trans h₁.sup
  store := h₂.store.trans h₁.store
  latches := h₂.latches.trans h₁.latches
  group g := by
    obtain ⟨hst₁, haux₁, hrec₁⟩ := h₁.group g
    obtain ⟨hst₂, haux₂, hrec₂⟩ := h₂.group g
    exact ⟨hst₂.trans hst₁, haux₂.trans haux₁, hrec₂.trans hrec₁⟩
  settled g hg := by
    obtain ⟨hst, -⟩ := h₁.group g
    exact (h₂.settled g (hst ▸ hg)).trans (h₁.settled g hg)

/-- R128: a release at a crossing. -/
theorem releaseAtCrossing_supervisedAs (g : GroupId) (s : State) : (releaseAtCrossing g s).SupervisedAs s := by
  unfold releaseAtCrossing
  split
  · next h =>
    obtain ⟨hst, -⟩ := h
    have hgroup : ∀ y, (releaseCoil g s).group y = if y = g then { s.group g with
        coil := false, releasePending := false, timer := s.timerMs .opening s.gcc.openTimeout } else s.group y :=
      fun y => setGroup_group s g y _
    refine ⟨by simp, by simp, by simp, by simp, sameLatches_of_zones (by simp), fun y => ?_, fun y hy => ?_⟩
    · rw [hgroup]
      split
      · next e => subst e; exact ⟨rfl, rfl, rfl⟩
      · exact ⟨rfl, rfl, rfl⟩
    · exact (hgroup y).trans (if_neg (by rintro rfl; exact hy hst))
  · exact supervisedAs_refl s

theorem contactorsAtCrossing_supervisedAs (s : State) : (contactorsAtCrossing s).SupervisedAs s :=
  forGroups_induction (State.SupervisedAs · s) (fun g u hu => (releaseAtCrossing_supervisedAs g u).trans hu) _ s
    (supervisedAs_refl s)

theorem takeCrossing_supervisedAs {k : Taker} (hk : k ≠ .supervision) (c : Crossing) (s : State) :
    (takeCrossing c k s).SupervisedAs s := by
  obtain ⟨hnow, hmtu, -⟩ := takeCrossing_keeps c k s
  by_cases hc : k = .contactors
  · exact hc ▸ contactorsAtCrossing_supervisedAs s
  · obtain ⟨hstore, hgcc⟩ : (takeCrossing c k s).store = s.store ∧ (takeCrossing c k s).gcc = s.gcc := by
      cases k with
      | supervision => exact absurd rfl hk
      | contactors => exact absurd rfl hc
      | zoneTable => unfold takeCrossing; dsimp only; split <;> simp
      | _ => simp [takeCrossing]
    exact supervisedAs_of_gcc hnow hmtu (takeCrossing_sup hk s) hstore
      (sameLatches_takeCrossing c k s) hgcc

/-! ### The record of the half-cycle that ends (R95, R113) -/

/-- The switch stage has the record of a half-cycle, driven with `current` and not cut short. -/
def SwitchStage.holds (w : SwitchStage) (frame : BitVec 32) (h current : Nat) : Prop :=
  ∃ d, w.recordOf frame h = some d ∧ d.status ≠ .cutShort ∧ d.frame = frame ∧ d.h = h ∧ d.current = current

theorem holds_of_present {w : SwitchStage} {d : DriveRecord} (hd : w.present = some d) (hs : d.status ≠ .cutShort) :
    w.holds d.frame d.h d.current :=
  ⟨d, by simp [SwitchStage.recordOf, hd], hs, rfl, rfl, rfl⟩

theorem closeOpen_keeps (d : DriveRecord) : d.closeOpen.frame = d.frame ∧ d.closeOpen.h = d.h ∧
    d.closeOpen.current = d.current ∧ (d.closeOpen.status = .cutShort ↔ d.status = .cutShort) := by
  unfold DriveRecord.closeOpen
  split
  · next h => simp [h]
  · exact ⟨rfl, rfl, rfl, Iff.rfl⟩

/-- R95: once the switch stage has taken a crossing that begins another half-cycle, the record is the previous one. -/
theorem takeCrossing_switchStage_holds {c : Crossing} {s : State} {d : DriveRecord} (hd : s.switch.present = some d)
    (hs : d.status ≠ .cutShort) (hne : ¬ (c.frame = d.frame ∧ c.h = d.h)) :
    (takeCrossing c .switchStage s).switch.holds d.frame d.h d.current := by
  obtain ⟨hframe, hh, hcurrent, hstatus⟩ := closeOpen_keeps d
  rw [takeCrossing_switchStage]
  refine ⟨d.closeOpen, ?_, mt hstatus.mp hs, hframe, hh, hcurrent⟩
  simp [SwitchStage.recordOf, driveLines, hne, hd, hframe, hh]

/-! ### Supervision among the takers -/

/-- A crossing of a state that the takers in `l` have still to take, the record of whose ended half-cycle is `d`:
until supervision has taken it supervision finds the state as `s`; after that, as it left such a state. -/
def State.superviseSoon (u s : State) (c : Crossing) (d : DriveRecord) (l : List Taker) : Prop :=
  if .supervision ∈ l then
    u.SupervisedAs s ∧ u.switch.holds d.frame d.h d.current ∧ (.switchStage ∈ l → u.switch.present = some d)
  else ∃ b : State, b.SupervisedAs s ∧ b.switch.holds d.frame d.h d.current ∧
    u.SupervisedAs (supervisionAtCrossing c b)

theorem takeCrossing_superviseSoon {u s : State} {c : Crossing} {d : DriveRecord} (hs : d.status ≠ .cutShort)
    (hne : ¬ (c.frame = d.frame ∧ c.h = d.h)) {k : Taker} {l : List Taker} (hk : k ∉ l)
    (h : u.superviseSoon s c d (k :: l)) : (takeCrossing c k u).superviseSoon s c d l := by
  by_cases hsup : k = .supervision
  · subst hsup
    rw [State.superviseSoon, if_pos List.mem_cons_self] at h
    rw [State.superviseSoon, if_neg hk]
    obtain ⟨hu, hholds, -⟩ := h
    exact ⟨u, hu, hholds, supervisedAs_refl _⟩
  · have hmem : .supervision ∈ k :: l ↔ .supervision ∈ l := by simp [Ne.symm hsup]
    have htaken := takeCrossing_supervisedAs hsup c u
    by_cases hl : .supervision ∈ l
    · rw [State.superviseSoon, if_pos (hmem.mpr hl)] at h
      rw [State.superviseSoon, if_pos hl]
      obtain ⟨hu, hholds, hpresent⟩ := h
      refine ⟨htaken.trans hu, ?_⟩
      by_cases hswitch : k = .switchStage
      · subst hswitch
        exact ⟨takeCrossing_switchStage_holds (hpresent List.mem_cons_self) hs hne, fun hl' => absurd hl' hk⟩
      · rw [takeCrossing_switch k u hswitch]
        exact ⟨hholds, fun hl' => hpresent (List.mem_cons_of_mem k hl')⟩
    · rw [State.superviseSoon, if_neg (mt hmem.mp hl)] at h
      rw [State.superviseSoon, if_neg hl]
      obtain ⟨b, hb, hholds, hu⟩ := h
      exact ⟨b, hb, hholds, htaken.trans hu⟩

/-- R110, log entry 27: a crossing handed on, around supervision's part of it. -/
theorem handOn_around_supervision {s : State} {c : Crossing} {d : DriveRecord} (order : List Taker)
    (hd : s.switch.present = some d) (hs : d.status ≠ .cutShort) (hne : ¬ (c.frame = d.frame ∧ c.h = d.h)) :
    ∃ b : State, b.SupervisedAs s ∧ b.switch.holds d.frame d.h d.current ∧
      (handOn order c s).SupervisedAs (supervisionAtCrossing c b) := by
  have hstart : s.superviseSoon s c d (takerOrder order) := by
    rw [State.superviseSoon, if_pos (mem_takerOrder order _)]
    exact ⟨supervisedAs_refl s, holds_of_present hd hs, fun _ => hd⟩
  have hend := handOn_induction_rest (P := fun l u => u.superviseSoon s c d l)
    (fun k l u hk hu => takeCrossing_superviseSoon hs hne hk hu) order hstart
  rwa [State.superviseSoon, if_neg List.not_mem_nil] at hend

end Sys2Proof.Machine
end

section
/-! SUPPORT. A crossing in LOCKED: the state it leaves, by supervision's part of it, and O23 assembled. Settles O23. -/

namespace Sys2Proof.Machine

/-! ### The end of a frame or of a half-cycle (R110, R112) -/

theorem endedAt_keeps (boundary : Bool) (s : State) :
    (s.endedAt boundary).now = s.now ∧ (s.endedAt boundary).gcc = s.gcc ∧ (s.endedAt boundary).store = s.store ∧
    (s.endedAt boundary).sup.lastCheck = s.sup.lastCheck ∧ (s.endedAt boundary).sup.sample = s.sup.sample ∧
    (s.endedAt boundary).sup.readings = [] ∧ (s.endedAt boundary).sup.readingsFrom = s.now := by
  cases boundary
  · exact ⟨rfl, rfl, rfl, rfl, rfl, rfl, rfl⟩
  · simp only [State.endedAt, State.leaked, if_true, and_self]

/-! ### The supply check as other blocks leave it -/

/-- R112 to R114: the check reads supervision, and of the record the half-cycle and the current. -/
theorem checkedSupply_congr {b s : State} {d' d : DriveRecord} (hu : b.sup = s.sup) (hf : d'.frame = d.frame)
    (hh : d'.h = d.h) (hc : d'.current = d.current) : b.supplyRaised d' = s.supplyRaised d ∧
    (b.checkedSupply d').sup = (s.checkedSupply d).sup := by
  have hbad : b.supplyBad d' = s.supplyBad d := by rw [State.supplyBad, State.supplyBad, hu, hc]
  have hraised : b.supplyRaised d' = s.supplyRaised d := by
    rw [State.supplyRaised, State.supplyRaised, hbad, hu]
  refine ⟨hraised, ?_⟩
  simp only [State.checkedSupply, hraised, hbad, hu, hf, hh, hc]

/-- R132: what a trip of every group reads of a state, the supply check leaves, and the other blocks. -/
theorem checkedSupply_hitBy {b s : State} (hb : b.SupervisedAs s) (d : DriveRecord) (named : GroupId → Bool) :
    (b.checkedSupply d).hitBy named = s.hitBy named := by
  funext g
  have hgroup : (b.checkedSupply d).group g = b.group g := rfl
  obtain ⟨hst, -⟩ := hb.group g
  rw [State.hitBy, State.hitBy, hgroup, hst]

theorem checkedSupply_verified {b s : State} (hb : b.SupervisedAs s) (d : DriveRecord) (g : GroupId) :
    (b.checkedSupply d).verified g = s.verified g := by
  obtain ⟨-, haux, -⟩ := hb.group g
  exact verified_congr (t := b.checkedSupply d) haux hb.latches.setup
    (congrArg Supervision.sample hb.sup :) (congrArg Mtu.state hb.mtu)

theorem checkedSupply_storeSound {b s : State} (hb : b.SupervisedAs s) (hs : s.storeSound) (d : DriveRecord) :
    (b.checkedSupply d).storeSound :=
  storeSound_congr (t := b.checkedSupply d) hb.store
    (fun g => by obtain ⟨hst, -, hrec⟩ := hb.group g; exact ⟨hrec, hst⟩) hs

theorem checkSupply_sup (d : DriveRecord) (s : State) : (checkSupply d s).sup = (s.checkedSupply d).sup := by
  rw [checkSupply_eq]
  split
  · simp [tripEvery]
  · rfl

/-! ### The crossing -/

/-- R7, R9: the half-cycle that a crossing begins is not the one that it ends. -/
theorem crossing_begins_another (m : Mtu) (syn : Bool) :
    ¬ ((m.crossing syn).frame = m.frame ∧ (m.crossing syn).h = m.h) := by
  rw [crossing_eq]
  by_cases h : m.h + 1 < m.len <;> simp [h]

theorem txChoose_supervisedAs (s : State) : (txChoose s).SupervisedAs s :=
  supervisedAs_of_gcc (by simp) (by simp) (by simp) (by simp) (sameLatches_of_zones (by simp)) (by simp)

/-- R110, R112: a crossing in LOCKED leaves what supervision leaves. Here `v` is the state after the supply check of the
half-cycle that ends, before the end of the frame; where the score latches, `w` is the state that the trip finds. -/
theorem exec_of_crossesAt_supervised {i : Instr} {s : State} {d : DriveRecord} (hs : s.sound) (hi : s.crossesAt i)
    (hd : s.switch.present = some d) : ∃ t v : State, exec i s = .next t ∧
      t.SupervisedAs (v.endedAt (!decide (s.mtu.h + 1 < s.mtu.len))) ∧
      v.sup = (s.checkedSupply d).sup ∧ v.sameLatches s ∧
      (s.sup.limit ≤ s.supplyRaised d → ∃ w : State, v = w.tripOf .supplyFault (fun _ => true) [] ∧
        w.storeSound ∧ w.store = s.store ∧ w.hitBy (fun _ => true) = s.hitBy (fun _ => true) ∧
        w.verified = s.verified) := by
  obtain ⟨hm, -, -, ⟨hdrive, -⟩, -, -, -, hstore, -⟩ := hs
  have hl := locked_of_crossesAt hi
  obtain ⟨e, he, hopen, hframe, hh, -⟩ := hdrive hl
  obtain rfl : e = d := Option.some.inj (he.symm.trans hd)
  obtain ⟨syn, now, m, hexec, hml, -⟩ := exec_of_crossesAt hm hi
  obtain ⟨u, hu⟩ : ∃ u : State, u = { s with now := now, mtu := m } := ⟨_, rfl⟩
  obtain ⟨c, hc⟩ : ∃ c, c = s.mtu.crossing syn := ⟨_, rfl⟩
  have hboundary : c.boundary = !decide (s.mtu.h + 1 < s.mtu.len) := by rw [hc, crossing_eq]
  have hlock : c.lock = false := by rw [hc, crossing_eq]
  have hendedFrame : c.endedFrame = e.frame := by rw [hc, crossing_eq, hframe]
  have hendedH : c.endedH = e.h := by rw [hc, crossing_eq, hh]
  have hne : ¬ (c.frame = e.frame ∧ c.h = e.h) := by
    rw [hc, hframe, hh]
    exact crossing_begins_another s.mtu syn
  have hstatus : e.status ≠ .cutShort := by simp [hopen]
  rw [← hu, ← hc] at hexec
  obtain ⟨b, hb, ⟨d', hd', hs', hf', hh', hc'⟩, ht⟩ :=
    handOn_around_supervision (s := u) (c := c) i.takers (by rw [hu]; exact hd) hstatus hne
  have husup : b.sup = s.sup := hb.sup.trans (by rw [hu])
  have hustore : u.storeSound := by rw [hu]; exact hstore
  obtain ⟨hraised, hchecked⟩ := checkedSupply_congr husup hf' hh' hc'
  have hcross : supervisionAtCrossing c b = (checkSupply d' b).endedAt c.boundary :=
    supervisionAtCrossing_of_record hlock (by rw [hendedFrame, hendedH]; exact hd') hs'
  have hlatches : (checkSupply d' b).sameLatches s := (sameLatches_checkSupply d' b).trans
    (hb.latches.trans (by rw [hu]; exact sameLatches_refl _))
  refine ⟨_, checkSupply d' b, hexec, ?_, (checkSupply_sup d' b).trans hchecked, hlatches, fun hlimit => ?_⟩
  · rw [← hboundary, ← hcross]
    exact (txChoose_supervisedAs _).trans ht
  · refine ⟨b.checkedSupply d', ?_, checkedSupply_storeSound hb hustore d', ?_, ?_, ?_⟩
    · rw [checkSupply_eq, husup, hraised, if_pos hlimit, tripEvery, trip_eq (checkedSupply_storeSound hb hustore d')]
    · exact hb.store.trans (by rw [hu])
    · exact (checkedSupply_hitBy hb d' _).trans (by rw [hu]; rfl)
    · funext g
      refine (checkedSupply_verified hb d' g).trans ?_
      rw [hu]
      exact verified_congr rfl (fun _ => rfl) rfl (hml.trans hl.symm)

section Latch

variable {t v w : State} {boundary : Bool} {cause : TripCause} {named : GroupId → Bool} {g : GroupId}
  (ht : t.SupervisedAs (v.endedAt boundary)) (hv : v = w.tripOf cause named []) (hg : w.hitBy named g = true)
include ht hv hg

/-- R133: a group that the trip took is neither opened nor released by the crossing. -/
theorem State.SupervisedAs.group_of_trip : (t.group g).coil = false ∧ (t.group g).releasePending = false ∧
    (t.group g).state = if w.verified g then .tripped else .tripping := by
  obtain ⟨hcoil, hrelease, hstate⟩ := tripOf_group_of_hit hg cause []
  rw [← hv] at hcoil hrelease hstate
  obtain ⟨-, hgcc, -⟩ := endedAt_keeps boundary v
  have hend : (v.endedAt boundary).group g = v.group g := by
    rw [State.group, hgcc]
    rfl
  have hgroup : t.group g = v.group g := by
    refine (ht.settled g ?_).trans hend
    rw [hend, hstate]
    split <;> decide
  rw [hgroup]
  exact ⟨hcoil, hrelease, hstate⟩

/-- R133, R151: the record of the trip is still held. -/
theorem State.SupervisedAs.exists_record_of_trip (hw : w.storeSound) (hlen : w.store.records.length < 8) :
    ∃ r ∈ t.store.records, r.number ≠ 0 ∧ r.cause = cause ∧ r.lockedZones = [] ∧
      ∀ g, inGroups r.groups g = w.hitBy named g := by
  have hsome : ¬ ∀ g, w.hitBy named g = false := fun h => Bool.false_ne_true ((h g).symm.trans hg)
  obtain ⟨-, -, hstore, -⟩ := endedAt_keeps boundary v
  have hrecords : t.store = (w.tripOf cause named []).store := (ht.store.trans hstore).trans (by rw [hv])
  rw [hrecords]
  exact exists_record_of_tripOf hw hsome hlen cause []

end Latch

/-- R110 to R112, R115: the scores of a zone after the end of a frame. -/
theorem leaked_zone_scores (s : State) (z : ZoneId) :
    s.leaked.sup.openScores[z] = (if ((s.zone z).state ≠ .faulted ∧ (s.zone z).state ≠ .locked) ∧
      inZones s.sup.openChecked z = true ∧ inZones s.sup.openFailed z = false then
      s.sup.openScores[z] - s.sup.leak else s.sup.openScores[z]) ∧
    s.leaked.sup.stuckScores[z] = (if ((s.zone z).state ≠ .faulted ∧ (s.zone z).state ≠ .locked) ∧
      inZones s.sup.stuckChecked z = true ∧ inZones s.sup.stuckFailed z = false then
      s.sup.stuckScores[z] - s.sup.leak else s.sup.stuckScores[z]) := by
  simp only [State.leaked, Fin.getElem_fin, Vector.getElem_ofFn, and_self]

/-- Settles O23: the crossing as `exec_of_crossesAt_supervised` leaves it, and supervision's own part of it. -/
theorem crossingChecksTheSupplyAndLeaksTheScores : Obligations.CrossingChecksTheSupplyAndLeaksTheScores := by
  refine ⟨fun i s d hs hi hd => ?_, ?_, fun c s hl hb => ?_⟩
  · obtain ⟨t, v, hexec, ht, hsup, hlatches, htrip⟩ := exec_of_crossesAt_supervised hs hi hd
    refine ⟨t, hexec, ?_⟩
    intro m tol bad raised held atBoundary
    have hm : meanOf s.sup.readings = m := meanOf_eq s.sup.readings
    have hbad : s.supplyBad d = bad := by rw [State.supplyBad, hm]; rfl
    have hraised : s.supplyRaised d = raised := by rw [State.supplyRaised, hbad]
    have hv : v.sup = { s.sup with
        supplyScore := held, supplyChecked := true, supplyFailed := s.sup.supplyFailed || bad,
        lastCheck := some { frame := d.frame, h := d.h, expected := d.current, measured := m, mismatch := bad } } := by
      rw [hsup, State.checkedSupply, hraised, hbad, hm]
    obtain ⟨hnow, -, -, hcheck, hsample, hreadings, hfrom⟩ :=
      endedAt_keeps (!decide (s.mtu.h + 1 < s.mtu.len)) v
    refine ⟨?_, fun hh => ?_, fun hh => ?_, ?_⟩
    · rw [ht.sup, hcheck, hv]
    · have hend : t.sup = (restartReadings v).sup := by
        rw [ht.sup, State.endedAt, if_neg (by simpa [atBoundary] using hh)]
      rw [hend, restartReadings, hv]
      exact ⟨rfl, rfl, rfl, rfl, rfl⟩
    · have hend : t.sup = v.leaked.sup := by
        rw [ht.sup, State.endedAt, if_pos (by simpa [atBoundary] using hh)]
      rw [hend]
      refine ⟨?_, rfl, rfl, rfl, rfl, rfl, rfl, fun z => ?_⟩
      · simp only [State.leaked, hv, true_and]
        cases s.sup.supplyFailed || bad <;> rfl
      · obtain ⟨-, hf, hl⟩ := (latch_eq_iff _ _).mp (hlatches z)
        obtain ⟨hopn, hstk⟩ := leaked_zone_scores v z
        simp only [hf, hl, hv, ne_eq] at hopn hstk
        exact ⟨hopn, hstk⟩
    · intro trippable
      have hhit : ∀ g, s.hitBy (fun _ => true) g = true ↔ trippable g := fun g => by
        simp [State.hitBy, trippable]
      refine ⟨fun hlimit => ?_, by rw [ht.sup, hreadings], by rw [ht.sup, ht.now, hnow, hfrom],
        by rw [ht.sup, hsample, hv]⟩
      obtain ⟨w, hw, hws, hwstore, hwhit, hwver⟩ := htrip (hraised ▸ hlimit)
      refine ⟨fun g hg => ?_, fun ⟨g, hg⟩ hlen => ?_⟩
      · have hg' : w.hitBy (fun _ => true) g = true := by rw [hwhit]; exact (hhit g).mpr hg
        exact hwver ▸ ht.group_of_trip hw hg'
      · have hg' : w.hitBy (fun _ => true) g = true := by rw [hwhit]; exact (hhit g).mpr hg
        obtain ⟨r, hr, hnumber, hcause, hlocked, hgroups⟩ := ht.exists_record_of_trip hw hg' hws (hwstore ▸ hlen)
        exact ⟨r, hr, hnumber, hcause, hlocked, fun g => by rw [hgroups, hwhit]; exact hhit g⟩
  · intro c s d hs hl hd hc t m tol bad raised checked anew after
    have hm : meanOf s.sup.readings = m := meanOf_eq s.sup.readings
    have hbad : s.supplyBad d = bad := by rw [State.supplyBad, hm]; rfl
    have hraised : s.supplyRaised d = raised := by rw [State.supplyRaised, hbad]
    have hchecked : s.checkedSupply d = checked := by rw [State.checkedSupply, hraised, hbad, hm]
    have ht : t = (checkSupply d s).endedAt c.boundary := supervisionAtCrossing_of_record hl hd hc
    rw [checkSupply_eq_tripOf hs, hraised, hchecked] at ht
    refine ⟨fun h => ?_, fun h => ?_⟩
    · rw [ht, if_neg (by omega)]
      rfl
    · rw [ht, if_pos h]
      rfl
  · exact (supervisionAtCrossing_of_lock hl s).trans (by rw [hb]; rfl)

end Sys2Proof.Machine
end

section
/-! SUPPORT. The group contactor controller by one group: what a raw line, a debounced aux, a timer and a request
make of the group's record. Settles O34, O36, O35 and O58. -/

namespace Sys2Proof.Machine

/-! ### Raw lines (R123, R137) -/

/-- Settles O34: `rawChange` with `departure` written out, and the branch of `stopChange` that trips nothing. -/
theorem rawLinesStartAndEndTheDebounceCount : Obligations.RawLinesStartAndEndTheDebounceCount := by
  refine ⟨fun _ _ _ _ => rfl, fun _ _ _ => rfl, fun since s h hstop => ?_⟩
  have hchange : stopChange s = { s with
      now := max s.now (since + 400), gcc := { s.gcc with stop := false, rawStopSince := none } } := by
    unfold stopChange
    simp only [h, hstop, atTime_keeps, Bool.not_true, Bool.false_eq_true, if_false]
    rfl
  simp [exec, execStopChange, h, hchange]

/-! ### Timers (R124) -/

/-- R124: a running timer expires at its instant. -/
theorem onExpiry_of_timer {g : GroupId} {k : TimerKind} {e : Nat} {s : State} (f : State → State)
    (h : (s.group g).timer = some { kind := k, expiry := e }) : onExpiry g k f s = f (s.atTime e) := by
  simp [onExpiry, Group.runs, State.expiryOf, h]

/-! ### The release of a coil (R128) -/

/-- R128: the record of a group whose coil is released, its open timer running to an instant. -/
def Group.released (v : Group) (expiry : Nat) : Group :=
  { v with coil := false, releasePending := false, timer := some { kind := .opening, expiry := expiry } }

theorem releaseCoil_eq (g : GroupId) (s : State) :
    releaseCoil g s = s.setGroup g ((s.group g).released (s.now + s.gcc.openTimeout * 100)) := rfl

@[simp] theorem releaseAtCrossing_openTimeout (g : GroupId) (s : State) :
    (releaseAtCrossing g s).gcc.openTimeout = s.gcc.openTimeout := by
  unfold releaseAtCrossing releaseCoil
  split <;> simp

theorem releaseAtCrossing_group_other {g y : GroupId} (h : g ≠ y) (s : State) :
    (releaseAtCrossing y s).group g = s.group g := by
  unfold releaseAtCrossing
  split
  · rw [releaseCoil_eq, setGroup_group, if_neg h]
  · rfl

theorem releaseAtCrossing_group_self (g : GroupId) (s : State) : (releaseAtCrossing g s).group g =
    if (s.group g).state = .opening ∧ (s.group g).releasePending = true then
      (s.group g).released (s.now + s.gcc.openTimeout * 100) else s.group g := by
  unfold releaseAtCrossing
  split
  · rw [releaseCoil_eq, setGroup_group_self]
  · rfl

theorem releaseList_group_of_notMem {gs : List GroupId} {g : GroupId} (h : g ∉ gs) (s : State) :
    (forGroups gs releaseAtCrossing s).group g = s.group g := by
  induction gs generalizing s with
  | nil => rfl
  | cons y ys ih =>
    obtain ⟨hy, hys⟩ : g ≠ y ∧ g ∉ ys := by simpa using h
    exact (ih hys (releaseAtCrossing y s)).trans (releaseAtCrossing_group_other hy s)

theorem releaseList_group {gs : List GroupId} (hnd : gs.Nodup) {g : GroupId} (h : g ∈ gs) (s : State) :
    (forGroups gs releaseAtCrossing s).group g = (releaseAtCrossing g s).group g := by
  induction gs generalizing s with
  | nil => cases h
  | cons y ys ih =>
    obtain ⟨hy, hys⟩ := List.nodup_cons.mp hnd
    have step : forGroups (y :: ys) releaseAtCrossing s = forGroups ys releaseAtCrossing (releaseAtCrossing y s) :=
      rfl
    rw [step]
    by_cases e : g = y
    · subst e
      exact releaseList_group_of_notMem hy _
    · rw [ih hys ((List.mem_cons.mp h).resolve_left e)]
      simp only [releaseAtCrossing_group_self, releaseAtCrossing_group_other e, releaseAtCrossing_keeps,
        releaseAtCrossing_openTimeout]

/-- R128: a zero crossing releases the coil of each OPENING group with release pending, and leaves the others. -/
theorem contactorsAtCrossing_group (g : GroupId) (s : State) : (contactorsAtCrossing s).group g =
    if (s.group g).state = .opening ∧ (s.group g).releasePending = true then
      (s.group g).released (s.now + s.gcc.openTimeout * 100) else s.group g := by
  rw [contactorsAtCrossing, releaseList_group allGroups_nodup (mem_allGroups g), releaseAtCrossing_group_self]

/-- Settles O36: both timers at their instants, and each group at a crossing. -/
theorem closeTimeoutAndCoilRelease : Obligations.CloseTimeoutAndCoilRelease := by
  refine ⟨fun g e s h => ?_, fun g e s h => ?_, fun _ s g => contactorsAtCrossing_group g s⟩
  · exact congrArg Host.Outcome.next (onExpiry_of_timer _ h)
  · exact congrArg Host.Outcome.next ((onExpiry_of_timer (releaseCoil g) h).trans (releaseCoil_eq g _))

/-! ### Aux changes by the group's state (R123, R126, R129, R131, R138, R139) -/

/-- R123: a group's record as its debounced aux changes. -/
def Group.auxChanged (v : Group) : Group := { v with aux := !v.aux, rawAuxSince := none }

theorem auxChange_eq {g : GroupId} {since : Nat} {s : State} (h : (s.group g).rawAuxSince = some since) :
    auxChange g s = auxHandled g ((s.atTime (since + 400)).setGroup g (s.group g).auxChanged) := by
  unfold auxChange
  rw [h]
  rfl

variable {g : GroupId} {v : Group}

/-- R131: OPEN and TRIPPED start the stuck-contact timer while the aux shows closed, and stop it otherwise. -/
theorem auxHandled_at_rest (s : State) (h : v.state = .opened ∨ v.state = .tripped) :
    auxHandled g (s.setGroup g v) = s.setGroup g { v with
      timer := if v.aux then some { kind := .stuckContact, expiry := s.now + s.gcc.verifyWindow * 100 } else none } := by
  have hcontact : auxHandled g (s.setGroup g v) = stuckContact g (s.setGroup g v) := by
    unfold auxHandled
    rw [setGroup_group_self]
    rcases h with h | h <;> rw [h]
  rw [hcontact, stuckContact, setGroup_group_self, setGroup_setGroup, setGroup_setGroup]
  split <;> rfl

/-- R126: a CLOSING group is CLOSED once its aux shows closed. -/
theorem auxHandled_closing (s : State) (h : v.state = .closing) : auxHandled g (s.setGroup g v) =
    if v.aux then submit (.groupClosed g) (s.setGroup g { v with state := .closed, timer := none })
    else s.setGroup g v := by
  unfold auxHandled closeConfirmed
  simp only [setGroup_group_self, setGroup_setGroup, h]

/-- R130: a CLOSED group whose aux shows open is tripped. -/
theorem auxHandled_closed (s : State) (h : v.state = .closed) : auxHandled g (s.setGroup g v) =
    if v.aux then s.setGroup g v else (trip .dropout (fun y => y == g) [] (s.setGroup g v)).1 := by
  unfold auxHandled
  simp only [setGroup_group_self, h]

/-- R129: an OPENING group is OPEN once its aux shows open. -/
theorem auxHandled_opening (s : State) (h : v.state = .opening) : auxHandled g (s.setGroup g v) =
    if v.aux then s.setGroup g v
    else submit (.groupOpened g) (s.setGroup g { v with
      state := .opened, coil := false, releasePending := false, timer := none }) := by
  have htest : auxHandled g (s.setGroup g v) = testOpening g (s.setGroup g v) := by
    unfold auxHandled
    rw [setGroup_group_self, h]
  rw [htest]
  split
  · next ha => exact testOpening_of_closed_aux ha
  · next ha => exact testOpening_of_open_aux h (Bool.eq_false_of_not_eq_true ha)

/-- R138: a TRIPPING group is tested. -/
theorem auxHandled_tripping (s : State) (h : v.state = .tripping) : auxHandled g (s.setGroup g v) =
    if (s.setGroup g v).verified g then verifyGroup g (s.setGroup g v) else s.setGroup g v := by
  unfold auxHandled testGroup
  simp only [setGroup_group_self, h, true_and]

theorem auxHandled_welded (s : State) (h : v.state = .welded) :
    auxHandled g (s.setGroup g v) = s.setGroup g v := by
  unfold auxHandled
  rw [setGroup_group_self, h]

/-- R138: a group is verified when its aux is open and, in LOCKED, a sample exists in which no configured zone of it
conducts. -/
theorem verified_iff (s : State) (g : GroupId) : s.verified g = true ↔ (s.group g).aux = false ∧
    (s.mtu.state = .locked → ∃ c, s.sup.sample = some c ∧ ∀ z, (s.zone z).cfg.group = g →
      (s.zone z).configured = true → inZones c.set z = false) := by
  by_cases hm : s.mtu.state = .locked
  · cases hc : s.sup.sample with
    | none => simp [State.verified, State.isLocked, hm, hc]
    | some c => simp [verified_iff_quiet hm hc, hm]
  · simp [State.verified, State.isLocked, hm]

/-- R139: a verified group is TRIPPED, its outcome CLEARED in its current record. -/
theorem verifyGroup_eq (g : GroupId) (s : State) : verifyGroup g s = submit (.groupVerified g (s.group g).record)
    { s.setGroup g { s.group g with state := .tripped, timer := none } with
      store := if (s.group g).record = 0 then s.store
        else s.store.setOutcome (s.group g).record g .cleared } := by
  unfold verifyGroup
  dsimp only
  split <;> rfl

/-- Settles O35: `auxHandled` by the state of the changed record. -/
theorem auxChangeIsHandledByTheGroupsState : Obligations.AuxChangeIsHandledByTheGroupsState := by
  intro g since s h s1 v
  have handled : ∀ {t}, auxHandled g (s1.setGroup g v) = t → exec (.auxChange g) s = .next (txChoose t) := by
    rintro t rfl
    have hexec : exec (.auxChange g) s = .next (txChoose (auxChange g s)) := by simp [exec, execAuxChange, h]
    rw [hexec, auxChange_eq h]
    rfl
  have verified : (s1.setGroup g v).verified g = true ↔ v.aux = false ∧
      (s.mtu.state = .locked → ∃ c, s.sup.sample = some c ∧ ∀ z, (s.zone z).cfg.group = g →
        (s.zone z).configured = true → inZones c.set z = false) := by
    rw [verified_iff, setGroup_group_self]
    rfl
  have untested : ¬ (s1.setGroup g v).verified g = true → v.state = .tripping →
      exec (.auxChange g) s = .next (txChoose (s1.setGroup g v)) := fun hv hst =>
    handled (by rw [auxHandled_tripping s1 hst, if_neg hv])
  refine ⟨fun hst ha => handled ?_, fun hst ha => handled ?_, fun hst ha => handled ?_, fun hst ha => handled ?_,
    fun hst ha hq => handled ?_, fun hst ha hl hq => untested ?_ hst, ?_⟩
  · rw [auxHandled_at_rest s1 hst, ha]
    rfl
  · rw [auxHandled_at_rest s1 hst, ha]
    rfl
  · rw [auxHandled_closing s1 hst, ha]
    rfl
  · rw [auxHandled_opening s1 hst, ha]
    rfl
  · rw [auxHandled_tripping s1 hst, if_pos (verified.mpr ⟨ha, hq⟩), verifyGroup_eq, setGroup_group_self,
      setGroup_setGroup]
    rfl
  · rw [verified]
    rintro ⟨-, hquiet⟩
    obtain ⟨c, hc, hnone⟩ := hquiet hl
    obtain ⟨z, hz, hconf, hon⟩ := hq c hc
    exact Bool.false_ne_true ((hnone z hz hconf).symm.trans hon)
  · rintro (⟨hst, ha⟩ | hst)
    · refine untested ?_ hst
      simp [verified, ha]
    · exact handled (auxHandled_welded s1 hst)

/-! ### CLOSE_GROUP and ACK_TRIP (R125, R141) -/

theorem anyLockedIn_iff (s : State) (g : GroupId) :
    s.anyLockedIn g = true ↔ ∃ z, (s.zone z).cfg.group = g ∧ (s.zone z).state = .locked := by
  simp [State.anyLockedIn]

/-- Settles O58: the answers' refusals in order and their grants, each as the reply. -/
theorem closeGroupAndAckTrip : Obligations.CloseGroupAndAckTrip := by
  intro hd g s h s1 v
  have hgcc : s1.gcc = s.gcc := by simp [s1]
  have hnow : s1.now = max s.now hd.time := received_now s hd
  have hgroup : s1.group g = v := (received_views s hd).2.2 g
  have hlocked : s1.anyLockedIn g = true ↔ ∃ z, (s.zone z).cfg.group = g ∧ (s.zone z).state = .locked := by
    simp [anyLockedIn_iff, s1]
  constructor
  · have close : ∀ {t code}, code ≠ ResultCode.unknownRequest →
        answerCloseGroup g s1 = { state := t, result := code, fields := [] } →
        exec (.closeGroup hd (groupByte g)) s = .next (t.replying hd 0x5A code []) := fun hc ha =>
      exec_of_answer rfl rfl h (groupInRange_groupByte g)
        (by simpa only [answer, groupNumber_groupByte] using ha) hc
    unfold answerCloseGroup at close
    rw [hgcc, hgroup] at close
    split
    · next hm => exact close nofun (if_pos hm)
    · next hm =>
      rw [if_neg hm] at close
      split
      · next hs => exact close nofun (if_pos hs)
      · next hs =>
        rw [if_neg hs] at close
        split
        · next hl => exact close nofun (if_pos (hlocked.mpr hl))
        · next hl =>
          rw [if_neg (mt hlocked.mp hl)] at close
          split
          · next hv =>
            refine close nofun ?_
            split
            · rfl
            · next hst => exact if_pos (hv.resolve_left hst)
          · next hv =>
            obtain ⟨hst, ha⟩ := not_or.mp hv
            rw [if_neg hst, if_neg ha] at close
            refine close nofun ?_
            rw [closeTaken, hgroup, State.timerMs, State.afterMs, hgcc, hnow]
            rfl
  · have ack : ∀ {t code}, code ≠ ResultCode.unknownRequest →
        answerAckTrip g s1 = { state := t, result := code, fields := [] } →
        exec (.ackTrip hd (groupByte g)) s = .next (t.replying hd 0x5C code []) := fun hc ha =>
      exec_of_answer rfl rfl h (groupInRange_groupByte g)
        (by simpa only [answer, groupNumber_groupByte] using ha) hc
    unfold answerAckTrip at ack
    rw [hgroup] at ack
    split
    · next hst => exact ack nofun (if_pos hst)
    · next hst => exact ack nofun (if_neg hst)

end Sys2Proof.Machine
end

section
/-! SUPPORT. What a trip makes of each group, over any store (R132, R138). -/

namespace Sys2Proof.Machine

variable {s : State} {g : GroupId} {named : GroupId → Bool}

/-- R132, R133, R138: the record of a group that a trip takes, under record number n. -/
def State.trippedGroup (s : State) (g : GroupId) (n : Half) : Group :=
  { s.group g with
    state := if s.verified g then .tripped else .tripping,
    coil := false, releasePending := false,
    timer := if s.verified g then none else some { kind := .verify, expiry := s.now + s.gcc.verifyWindow * 100 },
    record := n }

/-- R133 steps 4 and 5: the withdrawals leave the groups, and the first tests are of each group's own record. -/
theorem afterTrip_group {m : GroupSet} (h : inGroups m g = true) (s : State) :
    (afterTrip m s).group g = (s.group g).tested (s.verified g) := by
  obtain ⟨u, hu⟩ : ∃ u, u = forGroups (groupList m) (fun g => withdrawGroup g .groupTrip) s := ⟨_, rfl⟩
  have hgroup : u.group g = s.group g := by simp [hu, State.group]
  have hsetup : ∀ z, u.setup z = s.setup z := fun z => by
    rw [hu]
    exact forGroups_keeps (State.setup · z) (fun y w => withdrawGroup_setup z w y .groupTrip) _ _
  have hverified : u.verified g = s.verified g :=
    verified_congr (by rw [hgroup]) hsetup (by simp [hu]) (by simp [hu])
  have hmem : g ∈ groupList m := by simp [groupList, h]
  rw [afterTrip, ← hu, testList_group (gs := groupList m) (allGroups_nodup.filter _) hmem, testGroup_group_self,
    hgroup, hverified]
  rfl

/-- R132: a trip takes the groups it names that are CLOSING, CLOSED or OPENING. -/
theorem trip_group_of_hit (hg : s.hitBy named g = true) (cause : TripCause) (ls : List LockedZone) :
    ∃ n, (trip cause named ls s).1.group g = s.trippedGroup g n := by
  have h : ¬ ∀ g, s.hitBy named g = false := fun h => Bool.false_ne_true ((h g).symm.trans hg)
  have hmade := madeTripping_group s cause (s.hitBy named) ls g
  rw [if_pos hg] at hmade
  have hverified : (s.madeTripping cause (s.hitBy named) ls).verified g = s.verified g :=
    verified_congr (by rw [hmade]) (fun _ => rfl) rfl rfl
  refine ⟨(s.store.create (s.recordOf cause (s.hitBy named) ls .pending)).2.1, ?_⟩
  rw [trip_eq_of_hit h, afterTrip_group (by simpa using hg), hverified, hmade, Group.tested, State.trippedGroup]
  cases s.verified g <;> rfl

/-- R151: a trip leaves the other groups, but for the number of a record that it discards. -/
theorem trip_group_of_spared (hg : s.hitBy named g = false) (cause : TripCause) (ls : List LockedZone) :
    ∃ n, (n = 0 ∨ n = (s.group g).record) ∧ (trip cause named ls s).1.group g = { s.group g with record := n } := by
  by_cases h : ∀ g, s.hitBy named g = false
  · have hm : groupSet (s.hitBy named) = 0 := (groupSet_eq_zero _).mpr h
    exact ⟨_, .inr rfl, by simp [trip, affected_eq, hm]⟩
  · refine ⟨if (s.store.create (s.recordOf cause (s.hitBy named) ls .pending)).2.2 = some (s.group g).record then 0
      else (s.group g).record, ?_, ?_⟩
    · split
      · exact .inl rfl
      · exact .inr rfl
    · rw [trip_eq_of_hit h, afterTrip_group_of_notMem (by simpa using hg), madeTripping_group,
        if_neg (by simp [hg])]

/-! ### The settings and STOP, which no group's happening writes -/

/-- The contactor controller without its groups. -/
def Contactors.ungrouped (c : Contactors) : Contactors := { c with groups := Vector.ofFn fun _ => Group.reset 0 false }

@[simp] theorem setGroup_ungrouped (s : State) (g : GroupId) (v : Group) :
    (s.setGroup g v).gcc.ungrouped = s.gcc.ungrouped := rfl

@[simp] theorem mapGroups_ungrouped (s : State) (f : GroupId → Group → Group) :
    (s.mapGroups f).gcc.ungrouped = s.gcc.ungrouped := rfl

@[simp] theorem verifyGroup_ungrouped (g : GroupId) (s : State) :
    (verifyGroup g s).gcc.ungrouped = s.gcc.ungrouped := by
  rw [verifyGroup_eq]
  rfl

@[simp] theorem testGroup_ungrouped (g : GroupId) (s : State) :
    (testGroup g s).gcc.ungrouped = s.gcc.ungrouped := by
  unfold testGroup
  split <;> simp

@[simp] theorem makeRecord_ungrouped (r : TripRecord) (s : State) :
    (makeRecord r s).1.gcc.ungrouped = s.gcc.ungrouped := by
  rw [makeRecord_eq]
  rfl

@[simp] theorem afterTrip_ungrouped (m : GroupSet) (s : State) :
    (afterTrip m s).gcc.ungrouped = s.gcc.ungrouped := by
  have htests := forGroups_keeps (fun u => u.gcc.ungrouped) (f := testGroup) (fun g u => by simp) (groupList m)
    (forGroups (groupList m) (fun g => withdrawGroup g .groupTrip) s)
  exact htests.trans (by simp)

@[simp] theorem trip_ungrouped (cause : TripCause) (named : GroupId → Bool) (ls : List LockedZone) (s : State) :
    (trip cause named ls s).1.gcc.ungrouped = s.gcc.ungrouped := by
  unfold trip
  dsimp only
  split
  · rfl
  · simp [setRecords, tripGroups]

end Sys2Proof.Machine
end

section
/-! SUPPORT. What the tables fix of a group's record in each state (Tables 7-1 to 7-3). -/

namespace Sys2Proof.Machine

/-- R123: the count of 4 ms runs exactly while the raw KA line is away from the debounced aux. -/
def Group.counted (v : Group) : Prop := v.rawAuxSince.isSome = true ↔ v.rawAux ≠ v.aux

section States

variable {v : Group}

theorem sound_of_opened (h : v.state = .opened) : v.sound ↔ (v.coil = false ∧ v.releasePending = false) ∧
    v.timer.map (·.kind) = (if v.aux then some .stuckContact else none) ∧ v.record = 0 ∧ v.counted := by
  simp [Group.sound, Group.timerDue, Group.counted, h, and_assoc]

theorem sound_of_closing (h : v.state = .closing) : v.sound ↔ (v.coil = true ∧ v.releasePending = false) ∧
    v.timer.map (·.kind) = some .close ∧ v.aux = false ∧ v.record = 0 ∧ v.counted := by
  simp [Group.sound, Group.timerDue, Group.counted, h, and_assoc]

theorem sound_of_closed (h : v.state = .closed) : v.sound ↔ (v.coil = true ∧ v.releasePending = false) ∧
    v.timer = none ∧ v.aux = true ∧ v.record = 0 ∧ v.counted := by
  simp [Group.sound, Group.timerDue, Group.counted, h, and_assoc]

theorem sound_of_opening (h : v.state = .opening) : v.sound ↔ (v.coil = true ↔ v.releasePending = true) ∧
    v.timer.map (·.kind) = (if v.releasePending then some .release else some .opening) ∧ v.aux = true ∧
    v.record = 0 ∧ v.counted := by
  simp [Group.sound, Group.timerDue, Group.counted, h]

theorem sound_of_tripping (h : v.state = .tripping) : v.sound ↔ (v.coil = false ∧ v.releasePending = false) ∧
    v.timer.map (·.kind) = some .verify ∧ v.counted := by
  simp [Group.sound, Group.timerDue, Group.counted, h, and_assoc]

theorem sound_of_tripped (h : v.state = .tripped) : v.sound ↔ (v.coil = false ∧ v.releasePending = false) ∧
    v.timer.map (·.kind) = (if v.aux then some .stuckContact else none) ∧ v.counted := by
  simp [Group.sound, Group.timerDue, Group.counted, h, and_assoc]

theorem sound_of_welded (h : v.state = .welded) : v.sound ↔ (v.coil = false ∧ v.releasePending = false) ∧
    v.timer = none ∧ v.counted := by
  simp [Group.sound, Group.timerDue, Group.counted, h, and_assoc]

theorem Group.sound.counted (h : v.sound) : v.counted := by
  obtain ⟨-, -, -, -, -, -, -, hcount⟩ := h
  exact hcount

theorem Group.sound.aux_of_closing (h : v.sound) (hst : v.state = .closing) : v.aux = false := by
  obtain ⟨-, -, -, hclosing, -⟩ := h
  exact hclosing hst

theorem Group.sound.aux_of_closed (h : v.sound) (hst : v.state = .closed) : v.aux = true := by
  obtain ⟨-, -, -, -, hclosed, -⟩ := h
  exact hclosed hst

theorem Group.sound.aux_of_opening (h : v.sound) (hst : v.state = .opening) : v.aux = true := by
  obtain ⟨-, -, -, -, -, hopening, -⟩ := h
  exact hopening hst

/-- Table 7-2: each kind of timer runs in its own states. -/
theorem Group.sound.timerDue_of_runs (h : v.sound) {k : TimerKind} (hr : v.runs k = true) : v.timerDue = some k := by
  obtain ⟨-, -, htimer, -⟩ := h
  rw [← htimer]
  unfold Group.runs at hr
  split at hr
  · next t ht => simpa [ht] using hr
  · cases hr

/-- Table 7-2: the state in which a close, release or verify timer runs. -/
theorem state_of_timerDue : (v.timerDue = some .close → v.state = .closing) ∧
    (v.timerDue = some .release → v.state = .opening) ∧ (v.timerDue = some .verify → v.state = .tripping) := by
  unfold Group.timerDue
  cases v.state with
  | opened | tripped => cases v.aux <;> simp
  | opening => cases v.releasePending <;> simp
  | _ => simp

end States

/-! ### Records that follow one another -/

/-- Against `v`, `w` is sound if `v` is, and is CLOSING or CLOSED, or WELDED, only if `v` is. -/
def Group.follows (w v : Group) : Prop :=
  (v.sound → w.sound) ∧ (w.live → v.live) ∧ (w.state = .welded → v.state = .welded)

theorem follows_refl (v : Group) : v.follows v := ⟨id, id, id⟩

theorem Group.follows.trans {u w v : Group} (h₂ : u.follows w) (h₁ : w.follows v) : u.follows v := by
  obtain ⟨hsound₁, hlive₁, hwelded₁⟩ := h₁
  obtain ⟨hsound₂, hlive₂, hwelded₂⟩ := h₂
  exact ⟨hsound₂ ∘ hsound₁, hlive₁ ∘ hlive₂, hwelded₁ ∘ hwelded₂⟩

/-- A record that enters OPEN, OPENING, TRIPPING or TRIPPED. -/
theorem follows_of_state {w v : Group} (hst : w.state = .opened ∨ w.state = .opening ∨ w.state = .tripping ∨
    w.state = .tripped) (h : v.sound → w.sound) : w.follows v := by
  refine ⟨h, fun hl => ?_, fun hw => ?_⟩
  · rcases hst with e | e | e | e <;> simp [Group.live, e] at hl
  · rcases hst with e | e | e | e <;> simp [e] at hw

variable {v : Group}

/-- R151: a discarded record. -/
theorem follows_record {n : Half} (hn : n = 0 ∨ n = v.record) : Group.follows { v with record := n } v := by
  refine ⟨fun h => ?_, id, id⟩
  rcases hn with rfl | rfl
  · obtain ⟨hcoil, hrelease, htimer, hclosing, hclosed, hopening, -, hcount⟩ := h
    exact ⟨hcoil, hrelease, htimer, hclosing, hclosed, hopening, fun h => absurd rfl h, hcount⟩
  · exact h

/-- R132: a trip takes any group whose count is right. -/
theorem trippedGroup_sound {s : State} {g : GroupId} (h : (s.group g).counted) (n : Half) :
    (s.trippedGroup g n).sound := by
  cases hv : s.verified g with
  | false =>
    have hst : (s.trippedGroup g n).state = .tripping := by simp [State.trippedGroup, hv]
    rw [sound_of_tripping hst]
    exact ⟨⟨rfl, rfl⟩, by simp [State.trippedGroup, hv], h⟩
  | true =>
    have hst : (s.trippedGroup g n).state = .tripped := by simp [State.trippedGroup, hv]
    have ha : (s.group g).aux = false := ((verified_iff s g).mp hv).1
    rw [sound_of_tripped hst]
    exact ⟨⟨rfl, rfl⟩, by simp [State.trippedGroup, hv, ha], h⟩

theorem trippedGroup_follows {s : State} {g : GroupId} {v : Group} (h : v.sound → (s.group g).counted) (n : Half) :
    (s.trippedGroup g n).follows v := by
  refine follows_of_state ?_ fun hv => trippedGroup_sound (h hv) n
  cases hv : s.verified g <;> simp [State.trippedGroup, hv]

/-- R138: a test of a TRIPPING group. -/
theorem follows_verified (hst : v.state = .tripping) (ha : v.aux = false) :
    Group.follows { v with state := .tripped, timer := none } v := by
  refine follows_of_state (.inr (.inr (.inr rfl))) fun h => ?_
  obtain ⟨hcoil, -, hcount⟩ := (sound_of_tripping hst).mp h
  exact (sound_of_tripped rfl).mpr ⟨hcoil, by simp [ha], hcount⟩

/-- R128: the release of the coil of an OPENING group. -/
theorem follows_released (hst : v.state = .opening) (e : Nat) : (v.released e).follows v := by
  refine follows_of_state (.inr (.inl hst)) fun h => ?_
  obtain ⟨-, -, haux⟩ := (sound_of_opening hst).mp h
  exact (sound_of_opening (by exact hst)).mpr ⟨by simp [Group.released], rfl, haux⟩

/-- R126: a close that is not confirmed. -/
theorem follows_closeFailed (hst : v.state = .closing) :
    Group.follows { v with state := .opened, coil := false, timer := none } v := by
  refine follows_of_state (.inl rfl) fun h => ?_
  obtain ⟨⟨-, hrelease⟩, -, ha, hrecord, hcount⟩ := (sound_of_closing hst).mp h
  exact (sound_of_opened rfl).mpr ⟨⟨rfl, hrelease⟩, by simp [ha], hrecord, hcount⟩

/-- R141: ACK_TRIP. -/
theorem follows_acknowledged (hst : v.state = .tripped) :
    Group.follows { v with state := .opened, record := 0 } v := by
  refine follows_of_state (.inl rfl) fun h => ?_
  obtain ⟨hcoil, htimer, hcount⟩ := (sound_of_tripped hst).mp h
  exact (sound_of_opened rfl).mpr ⟨hcoil, htimer, rfl, hcount⟩

/-- R127 to R129: a CLOSED group that opens. -/
theorem openingFromClosed_follows {s : State} {g : GroupId} (hst : (s.group g).state = .closed) :
    (s.openingFromClosed g).follows (s.group g) := by
  have hopening : (s.openingFromClosed g).state = .opening := by
    unfold State.openingFromClosed
    split <;> rfl
  refine follows_of_state (.inr (.inl hopening)) fun h => ?_
  obtain ⟨⟨hcoil, -⟩, -, haux⟩ := (sound_of_closed hst).mp h
  rw [sound_of_opening hopening]
  unfold State.openingFromClosed
  split
  · exact ⟨by simp [hcoil], rfl, haux⟩
  · exact ⟨by simp, rfl, haux⟩

/-- R127, R129: a CLOSING group that is opened, or an OPENING one whose aux opens. -/
theorem opened_sound (ha : v.aux = false) (hrecord : v.record = 0) (hcount : v.counted) :
    Group.sound { v with state := .opened, coil := false, releasePending := false, timer := none } :=
  (sound_of_opened rfl).mpr ⟨⟨rfl, rfl⟩, by simp [ha], hrecord, hcount⟩

/-! ### Raw lines and a debounced aux (R123) -/

/-- R123: the count runs while the raw line is away from the debounced level, whatever level the line takes. -/
theorem departure_counted (now : Nat) {debounced raw : Bool} (level : Bool) {since : Option Nat}
    (h : since.isSome = true ↔ raw ≠ debounced) :
    (departure now debounced raw level since).isSome = true ↔ level ≠ debounced := by
  unfold departure
  split
  · next e => simp [e]
  · next e =>
    split
    · next e' => exact e' ▸ h
    · simp [e]

theorem follows_raw (now : Nat) (level : Bool) : Group.follows { v with
    rawAux := level, rawAuxSince := departure now v.aux v.rawAux level v.rawAuxSince } v := by
  refine ⟨fun h => ?_, id, id⟩
  obtain ⟨hcoil, hrelease, htimer, hclosing, hclosed, hopening, hrecord, hcount⟩ := h
  exact ⟨hcoil, hrelease, htimer, hclosing, hclosed, hopening, hrecord, departure_counted now level hcount⟩

theorem auxChanged_counted {since : Nat} (hs : v.rawAuxSince = some since) (h : v.sound) : v.auxChanged.counted := by
  have hne : v.rawAux ≠ v.aux := h.counted.mp (by simp [hs])
  simpa [Group.counted, Group.auxChanged] using hne

section AuxChanged

variable (hcount : v.sound → v.auxChanged.counted)
include hcount

/-- R131: the stuck-contact timer of an OPEN or TRIPPED group. -/
theorem follows_contact (hst : v.state = .opened ∨ v.state = .tripped) (e : Nat) :
    Group.follows { v.auxChanged with
      timer := if v.auxChanged.aux then some { kind := .stuckContact, expiry := e } else none } v := by
  have due : (if v.auxChanged.aux then some ({ kind := .stuckContact, expiry := e } : Timer) else none).map
      (·.kind) = if v.auxChanged.aux then some .stuckContact else none := by split <;> rfl
  rcases hst with hst | hst
  · refine follows_of_state (.inl hst) fun h => ?_
    obtain ⟨hcoil, -, hrecord, -⟩ := (sound_of_opened hst).mp h
    exact (sound_of_opened (by exact hst)).mpr ⟨hcoil, due, hrecord, hcount h⟩
  · refine follows_of_state (.inr (.inr (.inr hst))) fun h => ?_
    obtain ⟨hcoil, -⟩ := (sound_of_tripped hst).mp h
    exact (sound_of_tripped (by exact hst)).mpr ⟨hcoil, due, hcount h⟩

/-- R126: a CLOSING group whose aux shows closed. -/
theorem follows_closed (hst : v.state = .closing) :
    Group.follows { v.auxChanged with state := .closed, timer := none } v := by
  refine ⟨fun h => ?_, fun _ => .inl hst, nofun⟩
  obtain ⟨hcoil, -, ha, hrecord, -⟩ := (sound_of_closing hst).mp h
  exact (sound_of_closed rfl).mpr ⟨hcoil, rfl, by simp [Group.auxChanged, ha], hrecord, hcount h⟩

/-- R129: an OPENING group whose aux shows open. -/
theorem follows_opened (hst : v.state = .opening) : Group.follows { v.auxChanged with
    state := .opened, coil := false, releasePending := false, timer := none } v := by
  refine follows_of_state (.inl rfl) fun h => ?_
  obtain ⟨-, -, ha, hrecord, -⟩ := (sound_of_opening hst).mp h
  exact opened_sound (by simp [Group.auxChanged, ha]) hrecord (hcount h)

/-- R138, R141: the aux of a TRIPPING or a WELDED group fixes nothing else. -/
theorem follows_auxChanged (hst : v.state = .tripping ∨ v.state = .welded) : v.auxChanged.follows v := by
  refine ⟨fun h => ?_, id, id⟩
  rcases hst with hst | hst
  · obtain ⟨hcoil, htimer, -⟩ := (sound_of_tripping hst).mp h
    exact (sound_of_tripping (by exact hst)).mpr ⟨hcoil, htimer, hcount h⟩
  · obtain ⟨hcoil, htimer, -⟩ := (sound_of_welded hst).mp h
    exact (sound_of_welded (by exact hst)).mpr ⟨hcoil, htimer, hcount h⟩

end AuxChanged

end Sys2Proof.Machine
end

section
/-! SUPPORT. A weld as one change of the state, and the trip that follows it (R142, R143). -/

namespace Sys2Proof.Machine

variable {s : State} {g : GroupId} {cause : WeldCause}

/-- R142 steps 1 and 2: the record of a group that welds. -/
def Group.welding (v : Group) : Group :=
  { v with state := .welded, coil := false, timer := none, releasePending := false }

theorem weldGroup_group (y : GroupId) : (weldGroup g s).group y = if y = g then (s.group g).welding else s.group y :=
  setGroup_group s g y (s.group g).welding

/-- R142 step 3: the record that a weld makes of the group alone. -/
def State.weldRecordOf (s : State) (g : GroupId) : TripRecord := s.recordOf .groupWeld (fun y => y == g) [] .welded

theorem newRecord_weldGroup : (weldGroup g s).newRecord .groupWeld (groupSet fun y => y == g) [] .welded =
    s.weldRecordOf g := by
  have haux : ∀ y, ((weldGroup g s).group y).aux = (s.group y).aux := fun y => by
    rw [weldGroup_group]
    split
    · next e => rw [e]; rfl
    · rfl
  simp only [State.newRecord, State.weldRecordOf, State.recordOf, haux, inGroups_groupSet, weldGroup_keeps]

/-- R142 step 3, R152: at VERIFY_TIMEOUT the outcome in the current record. -/
theorem weldOf_of_held (hc : cause = .verifyTimeout) (hr : (s.group g).record ≠ 0) : s.weldOf g cause =
    submit (.groupWelded g cause (s.group g).record) { weldGroup g s with
      store := s.store.setOutcome (s.group g).record g .welded } := by
  have hrecords : (s.store.records.map fun r => if r.number = (s.group g).record ∧ r.outcomes[g] = .pending then
      { r with outcomes := r.outcomes.set g.val .welded g.isLt } else r) =
      (s.store.setOutcome (s.group g).record g .welded).records :=
    List.map_congr_left fun r _ => by
      unfold TripRecord.setOutcome
      by_cases hn : r.number = (s.group g).record <;> simp [hn]
  unfold State.weldOf
  dsimp only
  rw [if_pos ⟨hc, hr⟩, hrecords]
  rfl

/-- R142 step 3, R151: otherwise a record of the group alone. -/
theorem weldOf_of_made (h : ¬ (cause = .verifyTimeout ∧ (s.group g).record ≠ 0)) : s.weldOf g cause =
    submit (.groupWelded g cause (s.store.create (s.weldRecordOf g)).2.1)
      ((makeRecord (s.weldRecordOf g) (weldGroup g s)).1.setGroup g { (s.group g).welding with
        record := (s.store.create (s.weldRecordOf g)).2.1 }) := by
  have hgroups : (Vector.ofFn fun y => if y = g then { (s.group g).welding with
        record := (s.store.create (s.weldRecordOf g)).2.1 }
      else { s.group y with record :=
        if (s.store.create (s.weldRecordOf g)).2.2 = some (s.group y).record then 0 else (s.group y).record }) =
      (makeRecord (s.weldRecordOf g) (weldGroup g s)).1.gcc.groups.set g.val { (s.group g).welding with
        record := (s.store.create (s.weldRecordOf g)).2.1 } g.isLt := by
    rw [makeRecord_eq]
    ext1 i hi
    by_cases e : i = g.val
    · subst e; simp
    · have e' : (⟨i, hi⟩ : GroupId) ≠ g := fun h => e (congrArg Fin.val h)
      simp [Ne.symm e, e', weldGroup_group]
  have hwhole : (makeRecord (s.weldRecordOf g) (weldGroup g s)).1.setGroup g { (s.group g).welding with
        record := (s.store.create (s.weldRecordOf g)).2.1 } = { s with
      gcc := { s.gcc with
        masterTrip := true,
        groups := (makeRecord (s.weldRecordOf g) (weldGroup g s)).1.gcc.groups.set g.val { (s.group g).welding with
          record := (s.store.create (s.weldRecordOf g)).2.1 } g.isLt },
      store := (s.store.create (s.weldRecordOf g)).1 } := by
    rw [makeRecord_eq]
    rfl
  unfold State.weldOf
  dsimp only
  rw [if_neg h]
  rw [hwhole, ← hgroups]
  rfl

/-- R142, R143: a weld is one change of the state, and a trip of the other groups. -/
theorem weld_eq (g : GroupId) (cause : WeldCause) (s : State) :
    weld g cause s = (trip .masterTrip (fun y => y != g) [] (s.weldOf g cause)).1 := by
  have hself : (weldGroup g s).group g = (s.group g).welding := by rw [weldGroup_group, if_pos rfl]
  have hrecord : ((weldGroup g s).group g).record = (s.group g).record := by rw [hself]; rfl
  unfold weld weldRecord
  dsimp only
  rw [hrecord]
  by_cases h : cause = .verifyTimeout ∧ (s.group g).record ≠ 0
  · obtain ⟨hc, hr⟩ := h
    rw [if_pos ⟨hc, hr⟩, weldOf_of_held hc hr]
    exact congrArg (fun n => (trip .masterTrip (fun y => y != g) [] (submit (.groupWelded g cause n)
      { weldGroup g s with store := s.store.setOutcome (s.group g).record g .welded })).1) hrecord
  · have hnumber : (makeRecord (s.weldRecordOf g) (weldGroup g s)).2 = (s.store.create (s.weldRecordOf g)).2.1 := by
      rw [makeRecord_eq]
      rfl
    rw [if_neg h, weldOf_of_made h, newRecord_weldGroup, hnumber, makeRecord_group_eq, hself, setGroup_group_self]

/-! ### The groups after a weld -/

theorem weldOf_group_of_held (hc : cause = .verifyTimeout) (hr : (s.group g).record ≠ 0) (y : GroupId) :
    (s.weldOf g cause).group y = if y = g then (s.group g).welding else s.group y := by
  rw [weldOf_of_held hc hr]
  exact weldGroup_group y

theorem weldOf_group_of_made (h : ¬ (cause = .verifyTimeout ∧ (s.group g).record ≠ 0)) (y : GroupId) :
    (s.weldOf g cause).group y =
      if y = g then { (s.group g).welding with record := (s.store.create (s.weldRecordOf g)).2.1 }
      else { s.group y with record :=
        if (s.store.create (s.weldRecordOf g)).2.2 = some (s.group y).record then 0 else (s.group y).record } := by
  rw [weldOf_of_made h]
  simp only [submit_keeps, setGroup_group, makeRecord_group_eq, weldGroup_group]
  split <;> rfl

/-- R142: the group that welds. -/
theorem weldOf_group_self : ∃ n, (s.weldOf g cause).group g = { (s.group g).welding with record := n } := by
  by_cases h : cause = .verifyTimeout ∧ (s.group g).record ≠ 0
  · exact ⟨(s.group g).record, (weldOf_group_of_held h.1 h.2 g).trans (if_pos rfl)⟩
  · exact ⟨_, (weldOf_group_of_made h g).trans (if_pos rfl)⟩

/-- R151: the other groups, but for the number of a record that the weld's discards. -/
theorem weldOf_group_other {y : GroupId} (hy : y ≠ g) : ∃ n, (n = 0 ∨ n = (s.group y).record) ∧
    (s.weldOf g cause).group y = { s.group y with record := n } := by
  by_cases h : cause = .verifyTimeout ∧ (s.group g).record ≠ 0
  · exact ⟨(s.group y).record, .inr rfl, (weldOf_group_of_held h.1 h.2 y).trans (if_neg hy)⟩
  · refine ⟨_, ?_, (weldOf_group_of_made h y).trans (if_neg hy)⟩
    split
    · exact .inl rfl
    · exact .inr rfl

/-- R143: a weld sets the latch, and leaves STOP and the settings. -/
theorem weldOf_ungrouped : (s.weldOf g cause).gcc.ungrouped = { s.gcc with masterTrip := true }.ungrouped := by
  by_cases h : cause = .verifyTimeout ∧ (s.group g).record ≠ 0
  · rw [weldOf_of_held h.1 h.2]
    rfl
  · rw [weldOf_of_made h, makeRecord_eq]
    rfl

theorem weldOf_keeps : (s.weldOf g cause).now = s.now ∧ (s.weldOf g cause).mtu = s.mtu ∧
    (s.weldOf g cause).zones = s.zones ∧ (s.weldOf g cause).orders = s.orders ∧ (s.weldOf g cause).sup = s.sup := by
  by_cases h : cause = .verifyTimeout ∧ (s.group g).record ≠ 0
  · rw [weldOf_of_held h.1 h.2]
    exact ⟨rfl, rfl, rfl, rfl, rfl⟩
  · rw [weldOf_of_made h, makeRecord_eq]
    exact ⟨rfl, rfl, rfl, rfl, rfl⟩

theorem weld_ungrouped : (weld g cause s).gcc.ungrouped = { s.gcc with masterTrip := true }.ungrouped := by
  rw [weld_eq, trip_ungrouped, weldOf_ungrouped]

/-- R143: the trip of a weld spares the group that welds. -/
theorem weld_group_self (g : GroupId) (cause : WeldCause) (s : State) :
    ∃ n, (weld g cause s).group g = { (s.group g).welding with record := n } := by
  obtain ⟨m, hm⟩ := weldOf_group_self (s := s) (g := g) (cause := cause)
  have hspared : (s.weldOf g cause).hitBy (fun y => y != g) g = false := by simp [State.hitBy]
  obtain ⟨n, -, hn⟩ := trip_group_of_spared hspared .masterTrip []
  exact ⟨n, by rw [weld_eq, hn, hm]⟩

/-- R143: after the trip of a weld no other group is CLOSING, CLOSED or OPENING. -/
theorem weld_not_trippable (g : GroupId) (cause : WeldCause) (s : State) (y : GroupId) :
    ((weld g cause s).group y).state.trippable = false := by
  by_cases hy : y = g
  · obtain ⟨n, hn⟩ := weld_group_self g cause s
    rw [hy, hn]
    rfl
  · rw [weld_eq]
    exact trip_named_not_trippable _ (by simpa using hy) [] _

end Sys2Proof.Machine
end

section
/-! SUPPORT. The groups stay sound: every operation but a close, a weld and a change of STOP or of the settings leaves
each group's record one that follows it. Settles O10. -/

namespace Sys2Proof.Machine

/-! ### Operations after which every record follows its own -/

/-- Every group's record in `t` follows that in `s`, and the rest of the contactor controller is as it was. -/
def State.groupsFollow (t s : State) : Prop :=
  t.gcc.ungrouped = s.gcc.ungrouped ∧ ∀ g, (t.group g).follows (s.group g)

theorem groupsFollow_of_gcc {t s : State} (h : t.gcc = s.gcc) : t.groupsFollow s := by
  refine ⟨congrArg Contactors.ungrouped h, fun g => ?_⟩
  rw [State.group, h]
  exact follows_refl _

theorem groupsFollow_refl (s : State) : s.groupsFollow s := groupsFollow_of_gcc rfl

theorem groupsFollow_submit (r : Report) (s : State) : (submit r s).groupsFollow s := groupsFollow_of_gcc (by simp)

theorem State.groupsFollow.trans {u t s : State} (h₂ : u.groupsFollow t) (h₁ : t.groupsFollow s) :
    u.groupsFollow s := by
  obtain ⟨hu₁, hg₁⟩ := h₁
  obtain ⟨hu₂, hg₂⟩ := h₂
  exact ⟨hu₂.trans hu₁, fun g => (hg₂ g).trans (hg₁ g)⟩

theorem groupsFollow_setGroup {s : State} {g : GroupId} {w : Group} (h : w.follows (s.group g)) :
    (s.setGroup g w).groupsFollow s := by
  refine ⟨rfl, fun y => ?_⟩
  rw [setGroup_group]
  split
  · next e => exact e ▸ h
  · exact follows_refl _

theorem groupsFollow_forZones {f : ZoneId → State → State} (h : ∀ z s, (f z s).groupsFollow s) (zs : List ZoneId)
    (s : State) : (forZones zs f s).groupsFollow s :=
  forZones_induction (State.groupsFollow · s) (fun z u hu => (h z u).trans hu) zs s (groupsFollow_refl s)

theorem groupsFollow_forGroups {f : GroupId → State → State} (h : ∀ g s, (f g s).groupsFollow s)
    (gs : List GroupId) (s : State) : (forGroups gs f s).groupsFollow s :=
  forGroups_induction (State.groupsFollow · s) (fun g u hu => (h g u).trans hu) gs s (groupsFollow_refl s)

/-- The same settings, latch and STOP. -/
theorem ungrouped_eq_iff {c d : Contactors} : c.ungrouped = d.ungrouped ↔
    (c.closeTimeout = d.closeTimeout ∧ c.openTimeout = d.openTimeout ∧ c.verifyWindow = d.verifyWindow) ∧
    c.masterTrip = d.masterTrip ∧ c.stop = d.stop ∧ c.rawStop = d.rawStop ∧ c.rawStopSince = d.rawStopSince := by
  simp [Contactors.ungrouped, and_assoc]

theorem State.groupsFollow.keeps {t s : State} (h : t.groupsFollow s) (hs : s.groupsSound) : t.groupsSound := by
  obtain ⟨hu, hg⟩ := h
  obtain ⟨⟨hclose, hopen, hverify⟩, hmaster, hstop, hraw, hsince⟩ := ungrouped_eq_iff.mp hu
  obtain ⟨hsound, hlatch, hstopped, hwelded, hcount, htimes⟩ := hs
  unfold State.groupsSound
  rw [hclose, hopen, hverify, hmaster, hstop, hraw, hsince]
  refine ⟨fun g => (hg g).1 (hsound g), fun hm g hl => ?_, fun hst g hl => ?_, fun g hw => ?_, hcount, htimes⟩
  · exact hlatch hm g ((hg g).2.1 hl)
  · exact hstopped hst g ((hg g).2.1 hl)
  · exact hwelded g ((hg g).2.2 hw)

/-! ### Tests and trips -/

theorem groupsFollow_verifyGroup {g : GroupId} {s : State} (hst : (s.group g).state = .tripping)
    (hv : s.verified g = true) : (verifyGroup g s).groupsFollow s := by
  have ha : (s.group g).aux = false := ((verified_iff s g).mp hv).1
  rw [verifyGroup_eq]
  exact (groupsFollow_of_gcc rfl).trans (groupsFollow_setGroup (follows_verified hst ha))

theorem groupsFollow_testGroup (g : GroupId) (s : State) : (testGroup g s).groupsFollow s := by
  unfold testGroup
  split
  · next h => exact groupsFollow_verifyGroup h.1 h.2
  · exact groupsFollow_refl s

theorem trip_group_follows (cause : TripCause) (named : GroupId → Bool) (ls : List LockedZone) (s : State)
    (g : GroupId) : ((trip cause named ls s).1.group g).follows (s.group g) := by
  cases hg : s.hitBy named g with
  | false =>
    obtain ⟨n, hn, e⟩ := trip_group_of_spared hg cause ls
    exact e ▸ follows_record hn
  | true =>
    obtain ⟨n, e⟩ := trip_group_of_hit hg cause ls
    exact e ▸ trippedGroup_follows (fun h => h.counted) n

theorem groupsFollow_trip (cause : TripCause) (named : GroupId → Bool) (ls : List LockedZone) (s : State) :
    (trip cause named ls s).1.groupsFollow s :=
  ⟨trip_ungrouped cause named ls s, trip_group_follows cause named ls s⟩

theorem not_live_of_not_trippable {v : Group} (h : v.state.trippable = false) : ¬ v.live := by
  rintro (e | e) <;> simp [e, GroupState.trippable] at h

theorem welding_sound {v : Group} (h : v.counted) (n : Half) : Group.sound { v.welding with record := n } :=
  (sound_of_welded rfl).mpr ⟨⟨rfl, rfl⟩, rfl, h⟩

theorem weld_group_sound (g : GroupId) (cause : WeldCause) {s : State} (h : ∀ y, (s.group y).sound) (y : GroupId) :
    ((weld g cause s).group y).sound := by
  have welded : ((s.weldOf g cause).group y).sound := by
    by_cases hy : y = g
    · obtain ⟨n, hn⟩ := weldOf_group_self (s := s) (g := g) (cause := cause)
      rw [hy, hn]
      exact welding_sound (h g).counted n
    · obtain ⟨n, hn, e⟩ := weldOf_group_other (s := s) (cause := cause) hy
      rw [e]
      exact (follows_record hn).1 (h y)
  rw [weld_eq]
  exact (trip_group_follows _ _ _ _ y).1 welded

/-- The groups are sound where none is on the supply, each is sound, and a WELDED one has set the latch. -/
theorem groupsSound_of_off {t : State} {c : Contactors} (hu : t.gcc.ungrouped = c.ungrouped)
    (hsound : ∀ g, (t.group g).sound) (off : ∀ g, (t.group g).state.trippable = false)
    (hwelded : ∀ g, (t.group g).state = .welded → c.masterTrip = true)
    (hcount : c.rawStopSince.isSome = true ↔ c.rawStop ≠ c.stop)
    (htimes : (20 ≤ c.closeTimeout ∧ c.closeTimeout ≤ 1000) ∧ (20 ≤ c.openTimeout ∧ c.openTimeout ≤ 1000) ∧
      20 ≤ c.verifyWindow ∧ c.verifyWindow ≤ 1000) : t.groupsSound := by
  obtain ⟨⟨hclose, hopen, hverify⟩, hmaster, hstop, hraw, hsince⟩ := ungrouped_eq_iff.mp hu
  unfold State.groupsSound
  rw [hclose, hopen, hverify, hmaster, hstop, hraw, hsince]
  have dead : ∀ g, ¬ (t.group g).live := fun g => not_live_of_not_trippable (off g)
  exact ⟨hsound, fun _ => dead, fun _ => dead, hwelded, hcount, htimes⟩

/-- R142, R143: a weld sets the latch, and leaves no group on the supply. -/
theorem weld_keeps_groupsSound (g : GroupId) (cause : WeldCause) {s : State} (hs : s.groupsSound) :
    (weld g cause s).groupsSound := by
  obtain ⟨hsound, -, -, -, hcount, htimes⟩ := hs
  exact groupsSound_of_off weld_ungrouped (weld_group_sound g cause hsound) (weld_not_trippable g cause s)
    (fun _ _ => rfl) hcount htimes

/-! ### Supervision (R33, R114, R135) -/

theorem groupsFollow_stuckOnTrip (z : ZoneId) (s : State) : (stuckOnTrip z s).1.groupsFollow s := by
  unfold stuckOnTrip
  dsimp only
  split
  · split
    · exact groupsFollow_refl s
    · exact groupsFollow_of_gcc rfl
  · exact groupsFollow_trip _ _ _ s

theorem groupsFollow_stuckOnLatch (z : ZoneId) (s : State) : (stuckOnLatch z s).groupsFollow s := by
  unfold stuckOnLatch
  split
  · exact groupsFollow_refl s
  · have left : (leaveService z .locked .zoneLocked s).1.groupsFollow s := groupsFollow_of_gcc (by simp)
    exact (groupsFollow_submit _ _).trans ((groupsFollow_stuckOnTrip z _).trans left)

theorem groupsFollow_stuckStrike (z : ZoneId) (s : State) : (stuckStrike z s).groupsFollow s := by
  unfold stuckStrike
  dsimp only
  split
  · split
    · exact (groupsFollow_stuckOnLatch z _).trans (groupsFollow_of_gcc (by simp))
    · exact groupsFollow_of_gcc (by simp)
  · exact groupsFollow_refl s

theorem groupsFollow_applyCheck (z : ZoneId) (c : CheckResult) (s : State) : (applyCheck z c s).groupsFollow s := by
  unfold applyCheck
  split
  · exact groupsFollow_refl s
  · split <;> exact groupsFollow_of_gcc (by simp)
  · split
    · exact (groupsFollow_stuckStrike z _).trans (groupsFollow_of_gcc (by simp))
    · exact groupsFollow_of_gcc (by simp)

theorem groupsFollow_midPoint (cs : ZoneSet) (first : Bool) (s : State) : (midPoint cs first s).groupsFollow s := by
  have tests : ∀ u : State, (testGroups u).groupsFollow u := groupsFollow_forGroups groupsFollow_testGroup _
  have checks : ∀ u : State, (conductionChecks cs u).groupsFollow u := fun u =>
    groupsFollow_forZones (fun z _ => groupsFollow_applyCheck z _ _) _ u
  have sampled : (s.sampled cs).groupsFollow s := groupsFollow_of_gcc rfl
  rw [midPoint_eq]
  split
  · exact ((checks _).trans (tests _)).trans sampled
  · exact ((tests _).trans (checks _)).trans sampled

theorem groupsFollow_supervisionAtCrossing (c : Crossing) (s : State) :
    (supervisionAtCrossing c s).groupsFollow s := by
  obtain ⟨u, hu, he⟩ := exists_supervisionAtCrossing c s
  have checked : u.groupsFollow s := by
    rcases hu with rfl | ⟨r, rfl⟩
    · exact groupsFollow_refl u
    · obtain ⟨w, hw, -, -, hg⟩ := exists_checkSupply r s
      rw [hw, supplyLatch]
      split
      · exact (groupsFollow_trip _ _ _ _).trans (groupsFollow_of_gcc hg)
      · exact groupsFollow_of_gcc hg
  rw [he]
  exact (groupsFollow_of_gcc (by split <;> simp)).trans checked

/-! ### Crossings (R128) -/

theorem groupsFollow_contactorsAtCrossing (s : State) : (contactorsAtCrossing s).groupsFollow s := by
  refine groupsFollow_forGroups (fun g u => ?_) _ s
  unfold releaseAtCrossing
  split
  · next h => exact groupsFollow_setGroup (follows_released h.1 _)
  · exact groupsFollow_refl u

theorem groupsFollow_takeCrossing (c : Crossing) (k : Taker) (s : State) : (takeCrossing c k s).groupsFollow s := by
  unfold takeCrossing
  split
  · exact groupsFollow_of_gcc (by simp)
  · exact groupsFollow_supervisionAtCrossing c s
  · exact groupsFollow_contactorsAtCrossing s
  · exact groupsFollow_of_gcc (by simp)
  · split <;> exact groupsFollow_of_gcc (by simp)

theorem groupsFollow_handOn (order : List Taker) (c : Crossing) (s : State) : (handOn order c s).groupsFollow s :=
  handOn_induction (P := (State.groupsFollow · s)) (fun k u hu => (groupsFollow_takeCrossing c k u).trans hu) order
    (groupsFollow_refl s)

/-! ### Raw lines and aux changes (R123) -/

theorem groupsSound_rawChange (line : RawLine) (level : Bool) {s : State} (hs : s.groupsSound) :
    (rawChange line level s).groupsSound := by
  cases line with
  | ka g => exact (groupsFollow_setGroup (follows_raw s.now level)).keeps hs
  | stop =>
    obtain ⟨hsound, hlatch, hstopped, hwelded, hcount, htimes⟩ := hs
    exact ⟨hsound, hlatch, hstopped, hwelded, departure_counted s.now level hcount, htimes⟩

/-- R130: the trip of a CLOSED group whose aux has changed. -/
theorem groupsFollow_dropout {g : GroupId} {u : State} {w : Group} (hst : w.state = .closed)
    (hcount : (u.group g).sound → w.counted) :
    (trip .dropout (fun y => y == g) [] (u.setGroup g w)).1.groupsFollow u := by
  refine ⟨trip_ungrouped _ _ _ _, fun y => ?_⟩
  by_cases hy : y = g
  · subst hy
    have hit : (u.setGroup y w).hitBy (fun x => x == y) y = true := by simp [State.hitBy, hst]
    obtain ⟨n, e⟩ := trip_group_of_hit hit .dropout []
    exact e ▸ trippedGroup_follows (by rwa [setGroup_group_self]) n
  · have hspared : (u.setGroup g w).hitBy (fun x => x == g) y = false := by simp [State.hitBy, hy]
    obtain ⟨n, hn, e⟩ := trip_group_of_spared hspared .dropout []
    rw [setGroup_group, if_neg hy] at hn e
    exact e ▸ follows_record hn

/-- R123: each rule that handles a changed aux leaves a record that follows the one before the change. -/
theorem groupsFollow_auxHandled {g : GroupId} {u : State} {v : Group} (hv : u.group g = v)
    (hcount : v.sound → v.auxChanged.counted) :
    (auxHandled g (u.setGroup g v.auxChanged)).groupsFollow u := by
  have written : ∀ {w : Group}, w.follows v → (u.setGroup g w).groupsFollow u := fun hw =>
    groupsFollow_setGroup (hv ▸ hw)
  have unsound : ¬ v.sound → (u.setGroup g v.auxChanged).groupsFollow u := fun h =>
    written ⟨fun hs => absurd hs h, id, id⟩
  cases hst : v.state with
  | opened =>
    rw [auxHandled_at_rest (v := v.auxChanged) u (.inl hst)]
    exact written (follows_contact hcount (.inl hst) _)
  | tripped =>
    rw [auxHandled_at_rest (v := v.auxChanged) u (.inr hst)]
    exact written (follows_contact hcount (.inr hst) _)
  | closing =>
    rw [auxHandled_closing (v := v.auxChanged) u hst]
    split
    · exact (groupsFollow_of_gcc rfl).trans (written (follows_closed hcount hst))
    · next ha => exact unsound fun h => ha (by simp [Group.auxChanged, h.aux_of_closing hst])
  | closed =>
    rw [auxHandled_closed (v := v.auxChanged) u hst]
    split
    · next ha => exact unsound fun h => by simp [Group.auxChanged, h.aux_of_closed hst] at ha
    · exact groupsFollow_dropout hst (hv ▸ hcount)
  | opening =>
    rw [auxHandled_opening (v := v.auxChanged) u hst]
    split
    · next ha => exact unsound fun h => by simp [Group.auxChanged, h.aux_of_opening hst] at ha
    · exact (groupsFollow_of_gcc rfl).trans (written (follows_opened hcount hst))
  | tripping =>
    have changed := written (follows_auxChanged hcount (.inl hst))
    rw [auxHandled_tripping (v := v.auxChanged) u hst]
    split
    · next ht => exact (groupsFollow_verifyGroup (by rwa [setGroup_group_self]) ht).trans changed
    · exact changed
  | welded =>
    rw [auxHandled_welded (v := v.auxChanged) u hst]
    exact written (follows_auxChanged hcount (.inr hst))

theorem groupsFollow_auxChange (g : GroupId) (s : State) : (auxChange g s).groupsFollow s := by
  cases hsince : (s.group g).rawAuxSince with
  | none =>
    have hnone : auxChange g s = s := by simp [auxChange, hsince]
    rw [hnone]
    exact groupsFollow_refl s
  | some since =>
    rw [auxChange_eq hsince]
    exact (groupsFollow_auxHandled (u := s.atTime (since + 400)) rfl (auxChanged_counted hsince)).trans
      (groupsFollow_of_gcc rfl)

/-- R123, R137: the state in which the debounced STOP has changed. -/
def State.stopChanged (s : State) (since : Nat) : State :=
  { s with now := max s.now (since + 400), gcc := { s.gcc with stop := !s.gcc.stop, rawStopSince := none } }

theorem stopChange_eq {s : State} {since : Nat} (h : s.gcc.rawStopSince = some since) : stopChange s =
    if s.gcc.stop then s.stopChanged since
    else (trip .externalStop (fun _ => true) [] (s.stopChanged since)).1 := by
  unfold stopChange
  rw [h]
  dsimp only
  split
  · next hs => exact (if_neg (by simpa using hs)).symm
  · next hs => exact (if_pos (by simpa using hs)).symm

/-- R137: STOP, asserted, takes every group off the supply. -/
theorem stopChange_keeps_groupsSound {s : State} (hs : s.groupsSound) : (stopChange s).groupsSound := by
  cases hsince : s.gcc.rawStopSince with
  | none =>
    have hnone : stopChange s = s := by simp [stopChange, hsince]
    rwa [hnone]
  | some since =>
    obtain ⟨hsound, hlatch, -, hwelded, hcount, htimes⟩ := hs
    have hraw : s.gcc.rawStop = !s.gcc.stop := Bool.eq_not_of_ne (hcount.mp (by simp [hsince]))
    have counted : (none : Option Nat).isSome = true ↔ s.gcc.rawStop ≠ !s.gcc.stop := by simp [hraw]
    rw [stopChange_eq hsince]
    split
    · next hstop =>
      have deasserted : (s.stopChanged since).gcc.stop = false := by simp [State.stopChanged, hstop]
      exact ⟨hsound, hlatch, fun h => absurd (deasserted.symm.trans h) Bool.false_ne_true, hwelded, counted, htimes⟩
    · obtain ⟨hu, hfollows⟩ := groupsFollow_trip .externalStop (fun _ => true) [] (s.stopChanged since)
      exact groupsSound_of_off hu (fun g => (hfollows g).1 (hsound g))
        (fun g => trip_named_not_trippable .externalStop rfl [] _) (fun g hw => hwelded g ((hfollows g).2.2 hw))
        counted htimes

/-! ### Requests -/

/-- R125: a close is taken only while neither the latch nor STOP forbids it, of an OPEN group whose aux is open. -/
theorem answerCloseGroup_taken (g : GroupId) (s : State) : (answerCloseGroup g s).state = s ∨
    (s.gcc.masterTrip = false ∧ s.gcc.stop = false ∧ (s.group g).state = .opened ∧ (s.group g).aux = false ∧
      (answerCloseGroup g s).state = closeTaken g s) := by
  unfold answerCloseGroup
  split
  · exact .inl rfl
  · next hm =>
    split
    · exact .inl rfl
    · next hst =>
      split
      · exact .inl rfl
      · split
        · exact .inl rfl
        · next ho =>
          split
          · exact .inl rfl
          · next ha => exact .inr ⟨by simpa using hm, by simpa using hst, by simpa using ho, by simpa using ha, rfl⟩

theorem closeTaken_keeps_groupsSound {s : State} {g : GroupId} (hm : s.gcc.masterTrip = false)
    (hst : s.gcc.stop = false) (ho : (s.group g).state = .opened) (ha : (s.group g).aux = false)
    (hs : s.groupsSound) : (closeTaken g s).groupsSound := by
  obtain ⟨hsound, -, -, hwelded, hcount, htimes⟩ := hs
  obtain ⟨⟨-, hrelease⟩, -, hrecord, hcounted⟩ := (sound_of_opened ho).mp (hsound g)
  have closing : Group.sound { s.group g with
      state := .closing, coil := true, timer := s.timerMs .close s.gcc.closeTimeout } :=
    (sound_of_closing rfl).mpr ⟨⟨rfl, hrelease⟩, rfl, ha, hrecord, hcounted⟩
  refine ⟨fun y => ?_, fun h => absurd (hm.symm.trans h) Bool.false_ne_true,
    fun h => absurd (hst.symm.trans h) Bool.false_ne_true, fun y hy => hwelded y ?_, hcount, htimes⟩
  · rw [closeTaken, setGroup_group]
    split
    · exact closing
    · exact hsound y
  · rw [closeTaken, setGroup_group] at hy
    split at hy
    · cases hy
    · exact hy

/-- R127 to R129: OPEN_GROUP. -/
theorem answerOpenGroup_keeps_groupsSound {s : State} (g : GroupId) (hs : s.groupsSound) :
    (answerOpenGroup g s).state.groupsSound := by
  obtain ⟨hsound, -⟩ := id hs
  have opened : ∀ {w : Group}, w.follows (s.group g) →
      ((s.withdrawnOf (fun y => y == g) .groupOpened).setGroup g w).groupsSound := fun hw =>
    ((groupsFollow_setGroup (s := s.withdrawnOf _ _) (by rwa [State.group, withdrawnOf_gcc])).trans
      (groupsFollow_of_gcc (withdrawnOf_gcc s _ _))).keeps hs
  cases hst : (s.group g).state with
  | closed =>
    rw [answerOpenGroup_closed hst ((hsound g).aux_of_closed hst)]
    exact opened (openingFromClosed_follows hst)
  | closing =>
    obtain ⟨-, -, ha, hrecord, hcount⟩ := (sound_of_closing hst).mp (hsound g)
    rw [answerOpenGroup_closing hst ha]
    refine (groupsFollow_submit _ _).keeps ?_
    exact opened (follows_of_state (.inl rfl) fun _ => opened_sound ha hrecord hcount)
  | _ => simpa [answerOpenGroup, hst, State.grantGroup, State.grant, State.deny] using hs

/-- The requests of the other blocks leave the contactor controller. -/
theorem answer_gcc (r : Request) (s : State) (hclose : ∀ g, r ≠ .closeGroup g) (hopen : ∀ g, r ≠ .openGroup g)
    (hack : ∀ g, r ≠ .ackTrip g) (htrip : r ≠ .tripAll) (htiming : ∀ c o v, r ≠ .setContactorTiming c o v) :
    (answer r s).state.gcc = s.gcc := by
  cases r with
  | closeGroup g => exact absurd rfl (hclose g)
  | openGroup g => exact absurd rfl (hopen g)
  | ackTrip g => exact absurd rfl (hack g)
  | tripAll => exact absurd rfl htrip
  | setContactorTiming c o v => exact absurd rfl (htiming c o v)
  | setFrame => unfold answer answerSetFrame; dsimp only; (repeat' split) <;> rfl
  | configZone => unfold answer answerConfigZone; dsimp only; split <;> simp [State.grant, State.deny]
  | enableZone => unfold answer answerEnableZone; dsimp only; (repeat' split) <;> simp [State.grant, State.deny]
  | disableZone => unfold answer answerDisableZone; dsimp only; split <;> simp [State.grant, State.deny]
  | setDemand =>
    unfold answer answerSetDemand State.setDemand
    dsimp only
    (repeat' split) <;> simp [State.grantDemand, State.grant, State.deny]
  | clearZone => unfold answer answerClearZone; dsimp only; (repeat' split) <;> simp [State.grant, State.deny]
  | queueOrder =>
    unfold answer answerQueueOrder State.appendOrder State.orderAccepted
    dsimp only
    (repeat' split) <;> simp [State.grant, State.deny]
  | abortOrder =>
    unfold answer answerAbortOrder abortBehind
    dsimp only
    (repeat' split) <;> simp [State.grant, State.deny]
  | clearTally => simp [answer, answerClearTally, State.grant]
  | readTripRecord n => exact (congrArg State.gcc (answerReadTripRecord_state n s) :)
  | releaseTripRecord n =>
    obtain ⟨t, e⟩ := answerReleaseTripRecord_state n s
    exact (congrArg State.gcc e :)
  | _ => rfl

theorem answer_keeps_groupsSound {s : State} (r : Request) (hr : r.inRange s.mtu.len = true)
    (hs : s.groupsSound) : (answer r s).state.groupsSound := by
  cases r with
  | closeGroup g =>
    rcases answerCloseGroup_taken (groupNumber g) s with e | ⟨hm, hst, ho, ha, e⟩
    · rw [answer, e]
      exact hs
    · rw [answer, e]
      exact closeTaken_keeps_groupsSound hm hst ho ha hs
  | openGroup g => exact answerOpenGroup_keeps_groupsSound _ hs
  | ackTrip g =>
    rcases answerAckTrip_cases (groupNumber g) s with e | ⟨hst, e⟩
    · rw [answer, e]
      exact hs
    · rw [answer, e]
      exact (groupsFollow_setGroup (follows_acknowledged hst)).keeps hs
  | tripAll => exact (groupsFollow_trip _ _ _ s).keeps hs
  | setContactorTiming c o v =>
    obtain ⟨hsound, hlatch, hstopped, hwelded, hcount, -⟩ := hs
    have htimes : (20 ≤ c.toNat ∧ c.toNat ≤ 1000) ∧ (20 ≤ o.toNat ∧ o.toNat ≤ 1000) ∧
        20 ≤ v.toNat ∧ v.toNat ≤ 1000 := by simpa [Request.inRange, within_iff, and_assoc] using hr
    exact ⟨hsound, hlatch, hstopped, hwelded, hcount, htimes⟩
  | _ =>
    refine (groupsFollow_of_gcc ?_).keeps hs
    exact answer_gcc _ s nofun nofun nofun nofun nofun

/-! ### Every command -/

/-- R122, R123: the reset values. -/
theorem blank_groupsSound (now : Nat) (b : Straps) (raw : Vector Bool 4) (stop : Bool) (store : TripStore)
    (pending : List Instr) : (State.blank now b raw stop store pending).groupsSound := by
  have hgroup : ∀ g : GroupId, (State.blank now b raw stop store pending).group g = Group.reset now raw[g] := by
    simp [State.group, State.blank, Contactors.reset]
  have off : ∀ g : GroupId, ¬ ((State.blank now b raw stop store pending).group g).live := fun g => by
    rw [hgroup]
    exact not_live_of_not_trippable rfl
  refine ⟨fun g => ?_, fun _ => off, fun _ => off, fun g h => ?_, ?_, ?_⟩
  · rw [hgroup]
    refine (sound_of_opened rfl).mpr ⟨⟨rfl, rfl⟩, rfl, rfl, ?_⟩
    cases h : raw[g] <;> simp [Group.counted, Group.reset]
  · rw [hgroup] at h
    cases h
  · cases stop <;> simp [State.blank, Contactors.reset]
  · simp [State.blank, Contactors.reset]

/-- R122 to R124, R137, R143: what each part of a command keeps of the groups. -/
theorem groupsSound_keptByParts : KeptByParts State.groupsSound where
  frame := fun ⟨_, _, _, _, _, _, hg, _⟩ => (groupsFollow_of_gcc hg).keeps
  power := fun _ _ _ _ _ => blank_groupsSound _ _ _ _ _ _
  pin := fun _ _ _ _ _ _ => blank_groupsSound _ _ _ _ _ _
  retime := fun _ _ _ _ _ hs => hs
  lock := by
    intro s order _ _ _ hs
    exact ((groupsFollow_handOn order _ _).trans (groupsFollow_of_gcc rfl)).keeps hs
  cross := by
    intro s order ref syn _ _ hs
    exact ((groupsFollow_handOn order _ _).trans (groupsFollow_of_gcc rfl)).keeps hs
  lose := fun _ => (groupsFollow_of_gcc (by simp)).keeps
  point := fun cs first _ => (groupsFollow_midPoint cs first _).keeps
  reading := fun _ => (groupsFollow_of_gcc (by simp)).keeps
  raw := fun line level => groupsSound_rawChange line level
  aux := fun g => (groupsFollow_auxChange g _).keeps
  stop := stopChange_keeps_groupsSound
  closeTimer := by
    intro s g hr hs
    obtain ⟨hsound, -⟩ := id hs
    have hst := state_of_timerDue.1 ((hsound g).timerDue_of_runs hr)
    exact ((groupsFollow_of_gcc rfl).trans (groupsFollow_setGroup (follows_closeFailed hst))).keeps hs
  releaseTimer := by
    intro s g hr hs
    obtain ⟨hsound, -⟩ := id hs
    have hst := state_of_timerDue.2.1 ((hsound g).timerDue_of_runs hr)
    exact (groupsFollow_setGroup (follows_released hst _)).keeps hs
  openTimer := by
    intro s g _ hs
    unfold openExpired
    split
    · exact weld_keeps_groupsSound g _ hs
    · exact hs
  verifyTimer := by
    intro s g hr hs
    obtain ⟨hsound, -⟩ := id hs
    have hst := state_of_timerDue.2.2 ((hsound g).timerDue_of_runs hr)
    unfold verifyExpired
    split
    · next hv => exact (groupsFollow_verifyGroup hst hv).keeps hs
    · exact weld_keeps_groupsSound g _ hs
  stuckTimer := fun g _ => weld_keeps_groupsSound g _
  answered := fun r _ => answer_keeps_groupsSound r

/-- Settles O10: every step keeps what the parts of its command keep. -/
theorem stepKeepsTheGroupsSound : Obligations.StepKeepsTheGroupsSound := by
  intro s t hs h
  obtain ⟨hm, -, -, -, -, hgroups, -⟩ := hs
  exact groupsSound_keptByParts.step hm hgroups h

end Sys2Proof.Machine
end

section
/-! SUPPORT. A weld leaves the trip record store sound, and what its trip leaves of the weld's record (R142, R150 to
R152). -/

namespace Sys2Proof.Machine

/-! ### A new record in the store (R151) -/

/-- R151: the record that makes room is the only one that leaves. -/
theorem dropReplaceable_split {rs left : List TripRecord} {old : Half} (h : dropReplaceable rs = some (old, left)) :
    ∃ a x b, rs = a ++ x :: b ∧ left = a ++ b ∧ old = x.number := by
  induction rs generalizing left with
  | nil => cases h
  | cons r rs ih =>
    unfold dropReplaceable at h
    split at h
    · cases h
      exact ⟨[], r, rs, rfl, rfl, rfl⟩
    · split at h
      · next e =>
        cases h
        obtain ⟨a, x, b, rfl, rfl, hold⟩ := ih e
        exact ⟨r :: a, x, b, rfl, rfl, hold⟩
      · cases h

/-- R151: a new record is written behind the records that stay, of which fewer than eight are left, or is lost. -/
theorem create_cases {t : TripStore} (hlen : t.records.length ≤ 8) (r : TripRecord) :
    (∃ rs, rs.Sublist t.records ∧ rs.length < 8 ∧
      (∀ x ∈ t.records, x ∈ rs ∨ (t.create r).2.2 = some x.number) ∧
      (t.create r).1 = ({ t with records := rs }.write r).1 ∧ (t.create r).2.1 = ({ t with records := rs }.write r).2) ∨
    t.create r = ({ t with lost := satAdd max16 t.lost 1 }, 0, none) := by
  unfold TripStore.create
  split
  · next h => exact .inl ⟨t.records, List.Sublist.refl _, h, fun x hx => .inl hx, rfl, rfl⟩
  · split
    · next old rs e =>
      obtain ⟨a, x, b, hrs, rfl, rfl⟩ := dropReplaceable_split e
      refine .inl ⟨a ++ b, dropReplaceable_sublist e, ?_, fun y hy => ?_, rfl, rfl⟩
      · simp [hrs] at hlen ⊢
        omega
      · rw [hrs, List.mem_append, List.mem_cons] at hy
        rw [List.mem_append]
        rcases hy with hy | rfl | hy
        · exact .inl (.inl hy)
        · exact .inr rfl
        · exact .inl (.inr hy)
    · exact .inr rfl

/-! ### The store alone -/

/-- R147 to R150: the part of a sound store that does not speak of the groups. -/
def TripStore.sound (t : TripStore) : Prop :=
  t.records.length ≤ 8 ∧ (t.records.map (·.number)).Nodup ∧
  (∀ r ∈ t.records, r.number ≠ 0 ∧ ∀ g, (r.outcomes[g] = .notInSet ↔ inGroups r.groups g = false)) ∧
  t.next ≠ 0 ∧ t.lost ≤ max16

theorem storeSound_iff (s : State) : s.storeSound ↔ s.store.sound ∧
    ∀ g, (s.group g).record ≠ 0 → ∃ r ∈ s.store.records,
      r.number = (s.group g).record ∧ r.outcomes[g] = (s.group g).state.outcome := by
  simp [State.storeSound, TripStore.sound, Config.tripSlots, and_assoc]

theorem nextNumber_ne_zero {n : Half} (h : n ≠ 0) : nextNumber n ≠ 0 := iterate_nextNumber_ne_zero h 1

/-- R150, R151: a new record whose outcomes are those of its group set keeps the store sound. -/
theorem TripStore.sound.create {t : TripStore} (h : t.sound) {r : TripRecord}
    (hr : ∀ g, (r.outcomes[g] = .notInSet ↔ inGroups r.groups g = false)) : (t.create r).1.sound := by
  obtain ⟨hlen, hnodup, hrecords, hnext, hlost⟩ := h
  rcases create_cases hlen r with ⟨rs, hsub, hshort, -, e, -⟩ | e
  · rw [e]
    have hfree : ({ t with records := rs } : TripStore).newNumber ∉ rs.map (·.number) :=
      freeNumber_not_held (by simpa using hshort.le) hnext
    have hne : ({ t with records := rs } : TripStore).newNumber ≠ 0 := freeNumber_ne_zero _ _ hnext
    refine ⟨?_, ?_, fun x hx => ?_, nextNumber_ne_zero hne, hlost⟩
    · simpa [TripStore.write] using hshort
    · simp only [TripStore.write, List.map_append, List.map_cons, List.map_nil]
      rw [← List.concat_eq_append]
      exact (hnodup.sublist (hsub.map _)).concat hfree
    · rcases List.mem_append.mp hx with hx | hx
      · exact hrecords x (hsub.subset hx)
      · rw [List.mem_singleton.mp hx]
        exact ⟨hne, hr⟩
  · rw [e]
    exact ⟨hlen, hnodup, hrecords, hnext, satAdd_le _ _ _⟩

theorem setOutcome_outcome (r : TripRecord) (g y : GroupId) (o : GroupOutcome) : (r.setOutcome g o).outcomes[y] =
    if y = g ∧ r.outcomes[g] = .pending then o else r.outcomes[y] := by
  unfold TripRecord.setOutcome
  split
  · next h => simp [Vector.getElem_set, h, Fin.ext_iff, eq_comm]
  · next h => exact (if_neg fun h' => h h'.2).symm

theorem setOutcome_keeps (r : TripRecord) (g : GroupId) (o : GroupOutcome) :
    (r.setOutcome g o).number = r.number ∧ (r.setOutcome g o).groups = r.groups ∧
    (r.setOutcome g o).cause = r.cause := by
  unfold TripRecord.setOutcome
  split <;> simp

/-- R152: an outcome in a record keeps the store sound. -/
theorem TripStore.sound.setOutcome {t : TripStore} (h : t.sound) (n : Half) (g : GroupId) {o : GroupOutcome}
    (ho : o ≠ .notInSet) : (t.setOutcome n g o).sound := by
  obtain ⟨hlen, hnodup, hrecords, hnext, hlost⟩ := h
  have hnumbers : (t.setOutcome n g o).records.map (·.number) = t.records.map (·.number) := by
    simp only [TripStore.setOutcome, TripStore.update, List.map_map]
    refine List.map_congr_left fun r _ => ?_
    simp only [Function.comp]
    split
    · exact (setOutcome_keeps r g o).1
    · rfl
  refine ⟨?_, hnumbers ▸ hnodup, fun x hx => ?_, hnext, hlost⟩
  · simpa [TripStore.setOutcome, TripStore.update] using hlen
  · obtain ⟨r, hr, rfl⟩ := List.mem_map.mp hx
    obtain ⟨hn, hout⟩ := hrecords r hr
    obtain ⟨hnumber, hgroups, -⟩ := setOutcome_keeps r g o
    dsimp only
    split
    · refine ⟨hnumber ▸ hn, fun y => ?_⟩
      rw [setOutcome_outcome, hgroups, ← hout y]
      split
      · next hy => simp [ho, hy.1, hy.2]
      · rfl
    · exact ⟨hn, hout⟩

/-- R152: what an outcome leaves of each record. -/
theorem setOutcome_mem {t : TripStore} {r : TripRecord} (hr : r ∈ t.records) (n : Half) (g : GroupId)
    (o : GroupOutcome) : ∃ x ∈ (t.setOutcome n g o).records, x.number = r.number ∧
      ∀ y, x.outcomes[y] = if r.number = n ∧ y = g ∧ r.outcomes[g] = .pending then o else r.outcomes[y] := by
  refine ⟨_, List.mem_map_of_mem hr, ?_, fun y => ?_⟩
  · split
    · exact (setOutcome_keeps r g o).1
    · rfl
  · by_cases hn : r.number = n
    · simp only [hn, true_and]
      exact setOutcome_outcome r g y o
    · simp [hn]

/-- R151: a record whose number is answered is in the store. -/
theorem create_mem {t : TripStore} (hlen : t.records.length ≤ 8) {r : TripRecord} (hn : (t.create r).2.1 ≠ 0) :
    { r with number := (t.create r).2.1 } ∈ (t.create r).1.records := by
  rcases create_cases hlen r with ⟨rs, -, -, -, estore, enumber⟩ | e
  · rw [estore, enumber]
    exact List.mem_append_right _ (List.mem_singleton_self _)
  · rw [e] at hn
    exact absurd rfl hn

/-- R151: a record stays unless its number is the discarded one. -/
theorem mem_create {t : TripStore} (hlen : t.records.length ≤ 8) {r x : TripRecord} (hx : x ∈ t.records)
    (hkept : (t.create r).2.2 ≠ some x.number) : x ∈ (t.create r).1.records := by
  rcases create_cases hlen r with ⟨rs, -, -, hsplit, estore, -⟩ | e
  · rw [estore]
    exact List.mem_append_left _ ((hsplit x hx).resolve_right hkept)
  · rw [e]
    exact hx

/-! ### The store after a weld (R142) -/

variable {s : State} {g : GroupId} {cause : WeldCause}

theorem weldRecordOf_outcomes (s : State) (g y : GroupId) :
    ((s.weldRecordOf g).outcomes[y] = .notInSet ↔ inGroups (s.weldRecordOf g).groups y = false) := by
  by_cases hy : y = g <;> simp [State.weldRecordOf, State.recordOf, hy]

theorem weldOf_store_of_held (hc : cause = .verifyTimeout) (hr : (s.group g).record ≠ 0) :
    (s.weldOf g cause).store = s.store.setOutcome (s.group g).record g .welded := by
  rw [weldOf_of_held hc hr]
  rfl

theorem weldOf_store_of_made (h : ¬ (cause = .verifyTimeout ∧ (s.group g).record ≠ 0)) :
    (s.weldOf g cause).store = (s.store.create (s.weldRecordOf g)).1 := by
  rw [weldOf_of_made h, makeRecord_eq]
  rfl

/-- R142 step 3: the record of a weld, in a store with the outcome that its number stands for. -/
theorem weldOf_storeSound (hs : s.storeSound)
    (hst : cause = .verifyTimeout → (s.group g).record ≠ 0 → (s.group g).state = .tripping) :
    (s.weldOf g cause).storeSound := by
  rw [storeSound_iff] at hs ⊢
  obtain ⟨hstore, hheld⟩ := hs
  by_cases h : cause = .verifyTimeout ∧ (s.group g).record ≠ 0
  · obtain ⟨hc, hr⟩ := h
    rw [weldOf_store_of_held hc hr]
    refine ⟨hstore.setOutcome _ _ (by decide), fun y hy => ?_⟩
    rw [weldOf_group_of_held hc hr] at hy ⊢
    by_cases hyg : y = g
    · obtain ⟨r, hmem, hnumber, hout⟩ := hheld g hr
      obtain ⟨x, hx, hxn, hxo⟩ := setOutcome_mem hmem (s.group g).record g .welded
      have hpending : r.outcomes[g] = .pending := by rw [hout, hst hc hr]; rfl
      rw [if_pos hyg]
      exact ⟨x, hx, hxn.trans hnumber, by rw [hxo, if_pos ⟨hnumber, hyg, hpending⟩]; rfl⟩
    · rw [if_neg hyg] at hy ⊢
      obtain ⟨r, hmem, hnumber, hout⟩ := hheld y hy
      obtain ⟨x, hx, hxn, hxo⟩ := setOutcome_mem hmem (s.group g).record g .welded
      exact ⟨x, hx, hxn.trans hnumber, by rw [hxo, if_neg fun h => hyg h.2.1, hout]⟩
  · have hlen : s.store.records.length ≤ 8 := hstore.1
    rw [weldOf_store_of_made h]
    refine ⟨hstore.create (weldRecordOf_outcomes s g), fun y hy => ?_⟩
    rw [weldOf_group_of_made h] at hy ⊢
    by_cases hyg : y = g
    · rw [if_pos hyg] at hy ⊢
      refine ⟨_, create_mem hlen hy, rfl, ?_⟩
      simp [State.weldRecordOf, State.recordOf, hyg, Group.welding, GroupState.outcome]
    · rw [if_neg hyg] at hy ⊢
      by_cases hdrop : (s.store.create (s.weldRecordOf g)).2.2 = some (s.group y).record
      · exact absurd (if_pos hdrop) hy
      · simp only [if_neg hdrop] at hy ⊢
        obtain ⟨r, hmem, hnumber, hout⟩ := hheld y hy
        exact ⟨r, mem_create hlen hmem (by rwa [hnumber]), hnumber, hout⟩

end Sys2Proof.Machine
end

section
/-! SUPPORT. An expired contactor timer welds its group, with the weld's record and report kept by the trip that
follows. Settles O37. -/

namespace Sys2Proof.Machine

/-! ### A critical report stays (R162, R163) -/

section Critical

variable {r : Report}

/-- R163: an eviction takes an ordinary report. -/
theorem evictNewest_keeps_critical {es left : List QueueEntry} (h : evictNewest es = some left)
    (hr : r.critical = true) (hmem : r ∈ es.map (·.report)) : r ∈ left.map (·.report) := by
  induction es generalizing left with
  | nil => cases h
  | cons e es ih =>
    rw [List.map_cons, List.mem_cons] at hmem
    unfold evictNewest at h
    split at h
    · next left' hleft =>
      cases h
      rw [List.map_cons, List.mem_cons]
      exact hmem.imp_right (ih hleft)
    · split at h
      · next hev =>
        cases h
        have hne : r ≠ e.report := fun heq => by simp [QueueEntry.evictable, ← heq, hr] at hev
        simpa using hmem.resolve_left hne
      · cases h

/-- R160 to R163: no report that comes later takes a critical one from the queue. -/
theorem offer_keeps_critical {q : ReportQueue} (hr : r.critical = true) (hmem : r ∈ q.entries.map (·.report))
    (r' : Report) : r ∈ (q.offer r').entries.map (·.report) := by
  have enters : ∀ p : ReportQueue, r ∈ p.entries.map (·.report) → r ∈ (p.enter r').entries.map (·.report) :=
    fun p h => by
      simp only [ReportQueue.enter, List.map_append]
      exact List.mem_append_left _ h
  unfold ReportQueue.offer ReportQueue.generate ReportQueue.place
  split
  · split
    · exact enters _ hmem
    · split
      · split
        · next left hleft => exact enters _ (evictNewest_keeps_critical hleft hr hmem)
        · exact hmem
      · exact hmem
  · exact hmem

theorem offerAll_keeps_critical (hr : r.critical = true) (rs : List Report) {q : ReportQueue}
    (hmem : r ∈ q.entries.map (·.report)) : r ∈ (q.offerAll rs).entries.map (·.report) := by
  induction rs generalizing q with
  | nil => exact hmem
  | cons r' rs ih => exact ih (offer_keeps_critical hr hmem r')

theorem testGroup_keeps_critical (hr : r.critical = true) (g : GroupId) {s : State} (hs : s.holds r) :
    (testGroup g s).holds r := by
  unfold testGroup
  split
  · rw [verifyGroup_eq]
    exact offer_keeps_critical hr hs _
  · exact hs

/-- R133: the reports of a trip take no critical one from the queue. -/
theorem trip_keeps_critical {s : State} (hr : r.critical = true) (hs : s.holds r) (cause : TripCause)
    (named : GroupId → Bool) (ls : List LockedZone) : (trip cause named ls s).1.holds r := by
  by_cases h : ∀ g, s.hitBy named g = false
  · have hm : groupSet (s.hitBy named) = 0 := (groupSet_eq_zero _).mpr h
    simpa [trip, affected_eq, hm] using hs
  · have hlist : groupList (groupSet (s.hitBy named)) = allGroups.filter (s.hitBy named) := by simp [groupList]
    have hmade : (s.madeTripping cause (s.hitBy named) ls).holds r := offer_keeps_critical hr hs _
    rw [trip_eq_of_hit h, afterTrip, hlist, forGroups_withdrawGroup_eq]
    exact forGroups_induction (State.holds · r) (fun g _ => testGroup_keeps_critical hr g) _ _
      (offerAll_keeps_critical hr _ hmade)

end Critical

variable {s : State} {g : GroupId} {cause : WeldCause}

/-! ### The report and the record of a weld (R142) -/

/-- R142 step 4: GROUP_WELDED enters with the number of the group's record, and the trip leaves it. -/
theorem weld_holds (hlen : s.reports.entries.length < 48) :
    (weld g cause s).holds (.groupWelded g cause ((s.weldOf g cause).group g).record) := by
  rw [weld_eq]
  refine trip_keeps_critical rfl ?_ _ _ _
  by_cases h : cause = .verifyTimeout ∧ (s.group g).record ≠ 0
  · rw [weldOf_group_of_held h.1 h.2, if_pos rfl, weldOf_of_held h.1 h.2]
    exact submit_holds rfl hlen
  · rw [weldOf_group_of_made h, if_pos rfl, weldOf_of_made h, makeRecord_eq]
    exact submit_holds rfl hlen

/-- R150, R151: an empty slot takes a new record. -/
theorem create_of_room {t : TripStore} (h : t.records.length < 8) (r : TripRecord) :
    t.create r = ((t.write r).1, t.newNumber, none) := if_pos h

/-- R142 step 3: a weld that finds an empty slot for a record has one. -/
theorem weldOf_record_ne_zero (hs : s.storeSound) (hlen : s.store.records.length < 8) :
    ((s.weldOf g cause).group g).record ≠ 0 := by
  obtain ⟨-, -, -, hnext, -⟩ := hs
  by_cases h : cause = .verifyTimeout ∧ (s.group g).record ≠ 0
  · rw [weldOf_group_of_held h.1 h.2, if_pos rfl]
    exact h.2
  · rw [weldOf_group_of_made h, if_pos rfl, create_of_room hlen]
    exact freeNumber_ne_zero _ _ hnext

/-- R142 step 3: the weld's record holds WELDED; a record that it makes has cause GROUP_WELD. -/
theorem weldOf_record (hs : s.storeSound) (hst : cause = .verifyTimeout → (s.group g).state = .tripping)
    (hlen : s.store.records.length < 8) : ∃ r ∈ (s.weldOf g cause).store.records,
      r.number = ((s.weldOf g cause).group g).record ∧ r.outcomes[g] = .welded ∧
      (cause ≠ .verifyTimeout ∨ (s.group g).record = 0 → r.cause = .groupWeld) ∧
      (cause = .verifyTimeout → (s.group g).record ≠ 0 → r.number = (s.group g).record) := by
  have hsound : (s.weldOf g cause).storeSound := weldOf_storeSound hs fun hc _ => hst hc
  obtain ⟨-, -, -, -, -, hheld⟩ := hsound
  obtain ⟨r, hmem, hnumber, hout⟩ := hheld g (weldOf_record_ne_zero hs hlen)
  have hstate : ((s.weldOf g cause).group g).state = .welded := by
    obtain ⟨n, hn⟩ := weldOf_group_self (s := s) (g := g) (cause := cause)
    rw [hn]
    rfl
  refine ⟨r, hmem, hnumber, by rw [hout, hstate]; rfl, fun h => ?_, fun hc hr => ?_⟩
  · obtain ⟨hl, -, hrecords, hnext, -⟩ := hs
    have hmade : ¬ (cause = .verifyTimeout ∧ (s.group g).record ≠ 0) := by tauto
    rw [weldOf_store_of_made hmade] at hmem
    rw [weldOf_group_of_made hmade, if_pos rfl] at hnumber
    obtain ⟨-, hnew⟩ := create_spec hl hnext (fun x hx => (hrecords x hx).1) (s.weldRecordOf g)
    rw [hnew r hmem hnumber]
    rfl
  · rw [hnumber, weldOf_group_of_held hc hr, if_pos rfl]
    rfl

/-- R151: a weld adds one record at most. -/
theorem weldOf_records_length (hlen : s.store.records.length < 8) :
    (s.weldOf g cause).store.records.length ≤ s.store.records.length + 1 := by
  by_cases h : cause = .verifyTimeout ∧ (s.group g).record ≠ 0
  · rw [weldOf_store_of_held h.1 h.2]
    simp [TripStore.setOutcome, TripStore.update]
  · rw [weldOf_store_of_made h, create_of_room hlen]
    simp [TripStore.write]

/-- R133, R139: the store after a trip holds the trip's record, CLEARED for the groups verified at once. -/
theorem trip_store (hs : s.storeSound) {named : GroupId → Bool} (h : ¬ ∀ g, s.hitBy named g = false)
    (cause : TripCause) (ls : List LockedZone) : (trip cause named ls s).1.store =
      (s.store.create (s.recordOf cause (s.hitBy named) ls .pending)).1.update
        (s.store.create (s.recordOf cause (s.hitBy named) ls .pending)).2.1
        (·.clearing (allGroups.filter fun g => s.hitBy named g && s.verified g)) := by
  rw [trip_eq_of_hit h, afterTrip_madeTripping hs]
  rfl

/-- R151: a trip that finds an empty slot leaves the other records. -/
theorem mem_trip_records (hs : s.storeSound) (hlen : s.store.records.length < 8) {r : TripRecord}
    (hr : r ∈ s.store.records) (cause : TripCause) (named : GroupId → Bool) (ls : List LockedZone) :
    r ∈ (trip cause named ls s).1.store.records := by
  by_cases h : ∀ g, s.hitBy named g = false
  · have hm : groupSet (s.hitBy named) = 0 := (groupSet_eq_zero _).mpr h
    simpa [trip, affected_eq, hm] using hr
  · obtain ⟨hle, -, -, hnext, -⟩ := id hs
    have hfresh : s.store.newNumber ∉ s.store.records.map (·.number) :=
      freeNumber_not_held ((List.length_map _).le.trans hle) hnext
    have hnumber : r.number ≠ s.store.newNumber := fun e => hfresh (List.mem_map.mpr ⟨r, hr, e⟩)
    rw [trip_store hs h, create_of_room hlen]
    exact List.mem_map.mpr ⟨r, List.mem_append_left _ hr, if_neg hnumber⟩

/-- R151: a trip that finds an empty slot leaves the record numbers of the groups that it spares. -/
theorem trip_record_of_spared (hlen : s.store.records.length < 8) {named : GroupId → Bool}
    (hg : s.hitBy named g = false) (cause : TripCause) (ls : List LockedZone) :
    ((trip cause named ls s).1.group g).record = (s.group g).record := by
  by_cases h : ∀ g, s.hitBy named g = false
  · have hm : groupSet (s.hitBy named) = 0 := (groupSet_eq_zero _).mpr h
    simp [trip, affected_eq, hm]
  · rw [trip_eq_of_hit h, afterTrip_group_of_notMem (by simpa using hg), madeTripping_group, if_neg (by simp [hg]),
      create_of_room hlen]
    rfl

/-- R142, R151: the weld's record as the trip leaves it, in a store with slots for both. -/
theorem weld_record (hs : s.storeSound) (hst : cause = .verifyTimeout → (s.group g).state = .tripping)
    (hlen : s.store.records.length < 7) :
    ((weld g cause s).group g).record = ((s.weldOf g cause).group g).record ∧
    ∃ r ∈ (weld g cause s).store.records, r.number = ((weld g cause s).group g).record ∧ r.number ≠ 0 ∧
      r.outcomes[g] = .welded ∧
      (cause ≠ .verifyTimeout ∨ (s.group g).record = 0 → r.cause = .groupWeld) ∧
      (cause = .verifyTimeout → (s.group g).record ≠ 0 → r.number = (s.group g).record) := by
  have hroom : s.store.records.length < 8 := by omega
  have hroom' : (s.weldOf g cause).store.records.length < 8 :=
    (weldOf_records_length hroom).trans_lt (by omega)
  have hspared : (s.weldOf g cause).hitBy (fun y => y != g) g = false := by simp [State.hitBy]
  have hkept : ((weld g cause s).group g).record = ((s.weldOf g cause).group g).record := by
    rw [weld_eq]
    exact trip_record_of_spared hroom' hspared _ _
  obtain ⟨r, hmem, hnumber, hrest⟩ := weldOf_record hs hst hroom
  refine ⟨hkept, r, ?_, hnumber.trans hkept.symm, hnumber ▸ weldOf_record_ne_zero hs hroom, hrest⟩
  rw [weld_eq]
  exact mem_trip_records (weldOf_storeSound hs fun hc _ => hst hc) hroom' hmem _ _ _

/-! ### The latch, and the other groups (R143) -/

theorem weld_masterTrip : (weld g cause s).gcc.masterTrip = true := by
  obtain ⟨-, hlatch, -⟩ := ungrouped_eq_iff.mp (weld_ungrouped (s := s) (g := g) (cause := cause))
  exact hlatch

/-- R132, R143: the trip of a weld takes every other CLOSING, CLOSED or OPENING group. -/
theorem weld_group_other {y : GroupId} (hy : y ≠ g)
    (hst : (s.group y).state = .closing ∨ (s.group y).state = .closed ∨ (s.group y).state = .opening) :
    ((weld g cause s).group y).coil = false ∧ ((weld g cause s).group y).releasePending = false ∧
    (((weld g cause s).group y).state = .tripping ∨ ((weld g cause s).group y).state = .tripped) := by
  obtain ⟨m, -, hm⟩ := weldOf_group_other (s := s) (cause := cause) hy
  have hhit : (s.weldOf g cause).hitBy (fun y => y != g) y = true := by
    simp only [State.hitBy, hm, bne_iff_ne.mpr hy, Bool.true_and, decide_eq_true_eq]
    exact hst
  obtain ⟨n, hn⟩ := trip_group_of_hit hhit .masterTrip []
  rw [weld_eq, hn]
  refine ⟨rfl, rfl, ?_⟩
  dsimp only [State.trippedGroup]
  split
  · exact .inr rfl
  · exact .inl rfl

/-- R142, R143: over a sound store a weld and its trip are each one change of the state. -/
theorem weld_eq_tripOf (hs : s.storeSound) (hst : cause = .verifyTimeout → (s.group g).state = .tripping) :
    weld g cause s = (s.weldOf g cause).tripOf .masterTrip (fun y => y != g) [] := by
  rw [weld_eq, trip_eq (weldOf_storeSound hs fun hc _ => hst hc)]

/-! ### The timers' commands (R124, R129, R140) -/

/-- R124, R182: a timer's command, at the instant of the running timer. -/
theorem exec_of_timer {i : Instr} {k : TimerKind} {e : Nat} {f : State → State} {u : State}
    (hexec : exec i s = .next (onExpiry g k (fun x => txChoose (f x)) s))
    (h : (s.group g).timer = some { kind := k, expiry := e }) (hu : f (s.atTime e) = u) :
    exec i s = .next (txChoose u) := by
  rw [hexec, onExpiry_of_timer _ h, hu]

theorem openExpired_of_closed_aux (h : (s.group g).aux = true) : openExpired g s = weld g .openTimeout s := if_pos h

theorem verifyExpired_of_verified (h : s.verified g = true) : verifyExpired g s = verifyGroup g s := if_pos h

theorem verifyExpired_of_not_verified (h : s.verified g = false) : verifyExpired g s = weld g .verifyTimeout s :=
  if_neg (by rw [h]; nofun)

/-- Settles O37: each timer's command is a weld at the timer's instant, and the lemmas above say what a weld makes. -/
theorem expiredContactorTimersWeldTheGroup : Obligations.ExpiredContactorTimersWeldTheGroup := by
  refine ⟨fun g s => verified_iff s g, fun g e s => ?_⟩
  intro welds
  have welded : ∀ {i cause}, exec i s = .next (txChoose (weld g cause (s.atTime e))) →
      (cause = .verifyTimeout → (s.group g).state = .tripping) → welds i cause := by
    intro i cause hexec hst
    have hgroup : ∀ y, (txChoose (weld g cause (s.atTime e))).group y = (weld g cause (s.atTime e)).group y :=
      fun y => by simp [State.group]
    obtain ⟨n, hn⟩ := weld_group_self g cause (s.atTime e)
    have hself : (txChoose (weld g cause (s.atTime e))).group g = { (s.group g).welding with record := n } :=
      (hgroup g).trans hn
    have hreport : s.reports.entries.length < 48 → ∃ x ∈ (txChoose (weld g cause (s.atTime e))).reports.entries,
        x.report = .groupWelded g cause (((s.atTime e).weldOf g cause).group g).record :=
      fun hlen => List.mem_map.mp (txChoose_holds (weld_holds hlen))
    refine ⟨_, hexec, by simp, by rw [hself]; rfl, by rw [hself]; rfl, by rw [hself]; rfl, by rw [hself]; rfl,
      by rw [hself]; rfl, by simp only [txChoose_keeps, weld_masterTrip], fun y hy hsty => ?_, fun hs hlen => ?_,
      hreport, fun hs => ?_⟩
    · rw [hgroup]
      exact weld_group_other hy hsty
    · obtain ⟨hkept, r, hmem, hnumber, hne, hout, hcause, hheld⟩ := weld_record (s := s.atTime e) hs hst hlen
      refine ⟨r, by simpa using hmem, hnumber.trans (by rw [hgroup]), hne, hout, hcause, hheld, fun hl => ?_⟩
      rw [hnumber, hkept]
      exact hreport hl
    · rw [weld_eq_tripOf (s := s.atTime e) hs hst]
  refine ⟨fun ht ha => ?_, fun ht => ?_, fun ht hst hv => ?_, fun ht hv => ?_⟩
  · exact welded (exec_of_timer rfl ht (openExpired_of_closed_aux (s := s.atTime e) ha)) nofun
  · exact welded (exec_of_timer (f := weld g .auxStuck) rfl ht rfl) nofun
  · exact welded (exec_of_timer rfl ht (verifyExpired_of_not_verified (s := s.atTime e) hv)) fun _ => hst
  · exact exec_of_timer rfl ht ((verifyExpired_of_verified (s := s.atTime e) hv).trans (verifyGroup_eq g (s.atTime e)))

end Sys2Proof.Machine
end

section
/-! SUPPORT. A new record in the trip record store: the first number that no held record carries, and the slot that it
takes (R150, R151). Settles O33. -/

namespace Sys2Proof.Machine

/-! ### The first free number (R150) -/

/-- The search answers the first number of its walk that is not held, or the last one. -/
theorem freeNumber_first (held : List Half) (fuel : Nat) (n : Half) :
    ∃ k ≤ fuel, freeNumber held fuel n = nextNumber^[k] n ∧ ∀ j < k, nextNumber^[j] n ∈ held := by
  induction fuel generalizing n with
  | zero => exact ⟨0, le_rfl, rfl, nofun⟩
  | succ fuel ih =>
    by_cases h : n ∈ held
    · obtain ⟨k, hk, hfree, hwalk⟩ := ih (nextNumber n)
      have step : freeNumber held (fuel + 1) n = freeNumber held fuel (nextNumber n) := by simp [freeNumber, h]
      refine ⟨k + 1, Nat.succ_le_succ hk, step.trans hfree, fun j hj => ?_⟩
      cases j with
      | zero => exact h
      | succ j => exact hwalk j (Nat.lt_of_succ_lt_succ hj)
    · exact ⟨0, Nat.zero_le _, by simp [freeNumber, h], nofun⟩

/-- R150: fewer than 65535 numbers of a walk are all different, so as many records hold them. -/
theorem walk_le_length {held : List Half} {n : Half} (hn : n ≠ 0) {k : Nat} (hk : k ≤ 65535)
    (hwalk : ∀ j < k, nextNumber^[j] n ∈ held) : k ≤ held.length := by
  have hnodup : ((List.range k).map fun j => nextNumber^[j] n).Nodup := by
    refine List.Nodup.map_on (fun a ha b hb e => ?_) List.nodup_range
    have h := congrArg BitVec.toNat e
    rw [iterate_nextNumber_toNat hn, iterate_nextNumber_toNat hn] at h
    rw [List.mem_range] at ha hb
    omega
  have hsub : ((List.range k).map fun j => nextNumber^[j] n) ⊆ held := by
    intro m hm
    obtain ⟨j, hj, rfl⟩ := List.mem_map.mp hm
    exact hwalk j (List.mem_range.mp hj)
  simpa using (hnodup.subperm hsub).length_le

/-- R150: the number of a new record is the first from the next one on that no held record carries. -/
theorem newNumber_firstFree {t : TripStore} (hlen : t.records.length ≤ 8) (hnext : t.next ≠ 0) :
    t.newNumber ≠ 0 ∧ t.newNumber ∉ t.records.map (·.number) ∧ ∃ k ≤ 8, t.newNumber = nextNumber^[k] t.next ∧
      ∀ j < k, nextNumber^[j] t.next ∈ t.records.map (·.number) := by
  have hheld : (t.records.map (·.number)).length ≤ 8 := (List.length_map _).le.trans hlen
  obtain ⟨k, hk, hfree, hwalk⟩ := freeNumber_first (t.records.map (·.number)) 9 t.next
  exact ⟨freeNumber_ne_zero _ _ hnext, freeNumber_not_held hheld hnext, k,
    (walk_le_length hnext (hk.trans (by decide)) hwalk).trans hheld, hfree, hwalk⟩

/-! ### The slot of a full store (R151) -/

/-- R151: the oldest released and resolved record is the one that leaves. -/
theorem dropReplaceable_of_oldest {a b : List TripRecord} {old : TripRecord} (hold : old.replaceable = true)
    (ha : ∀ x ∈ a, x.replaceable = false) : dropReplaceable (a ++ old :: b) = some (old.number, a ++ b) := by
  induction a with
  | nil => exact if_pos hold
  | cons x a ih =>
    obtain ⟨hx, ha⟩ := List.forall_mem_cons.mp ha
    simp [dropReplaceable, hx, ih ha]

theorem dropReplaceable_of_none {rs : List TripRecord} (h : ∀ x ∈ rs, x.replaceable = false) :
    dropReplaceable rs = none := by
  induction rs with
  | nil => rfl
  | cons x rs ih =>
    obtain ⟨hx, h⟩ := List.forall_mem_cons.mp h
    simp [dropReplaceable, hx, ih h]

theorem create_of_full {t : TripStore} (h : t.records.length = 8) {old : Half} {left : List TripRecord}
    (e : dropReplaceable t.records = some (old, left)) (r : TripRecord) : t.create r =
      (({ t with records := left }.write r).1, ({ t with records := left } : TripStore).newNumber, some old) := by
  simp [TripStore.create, h, e, Config.tripSlots, TripStore.write]

theorem create_of_unreplaceable {t : TripStore} (h : t.records.length = 8) (e : dropReplaceable t.records = none)
    (r : TripRecord) : t.create r = ({ t with lost := satAdd max16 t.lost 1 }, 0, none) := by
  simp [TripStore.create, h, e, Config.tripSlots]

/-- Settles O33: the store's three cases, each with the number that the search finds among the records that stay. -/
theorem newRecordTakesAFreeSlotAndNumber : Obligations.NewRecordTakesAFreeSlotAndNumber := by
  intro st r hlen hnext after firstFree
  refine ⟨fun hroom => ?_, fun a b old hfull hrecords hold ha => ?_, fun hfull hnone => ?_⟩
  · rw [create_of_room hroom]
    exact ⟨st.newNumber, rfl, newNumber_firstFree hlen hnext, rfl⟩
  · have hleft : (a ++ b).length ≤ 8 := by
      simp [hrecords] at hlen ⊢
      omega
    have hdrop : dropReplaceable st.records = some (old.number, a ++ b) :=
      hrecords ▸ dropReplaceable_of_oldest hold ha
    rw [create_of_full hfull hdrop]
    exact ⟨({ st with records := a ++ b } : TripStore).newNumber, rfl,
      newNumber_firstFree (t := { st with records := a ++ b }) hleft hnext, rfl⟩
  · rw [create_of_unreplaceable hfull (dropReplaceable_of_none hnone)]
    rfl

end Sys2Proof.Machine
end

section
/-! SUPPORT. The trip record store stays sound: what each change of a group's record and of the store leaves of the
records that the groups' current numbers name (R147, R150 to R154). -/

namespace Sys2Proof.Machine

/-! ### Groups that keep their records' outcomes (R148) -/

/-- R148: `w` has no current record, or the one of `v` with the same outcome. -/
def Group.keepsOutcome (w v : Group) : Prop :=
  w.record = 0 ∨ w.record = v.record ∧ w.state.outcome = v.state.outcome

theorem keepsOutcome_of_state {w v : Group} (hr : w.record = v.record) (hst : w.state = v.state) :
    w.keepsOutcome v := .inr ⟨hr, congrArg GroupState.outcome hst⟩

variable {s t : State} {g : GroupId}

theorem storeSound_of_keepsOutcome (ht : t.store = s.store) (hg : ∀ g, (t.group g).keepsOutcome (s.group g))
    (hs : s.storeSound) : t.storeSound := by
  rw [storeSound_iff] at hs ⊢
  obtain ⟨hstore, hheld⟩ := hs
  rw [ht]
  refine ⟨hstore, fun g hr => ?_⟩
  rcases hg g with h | ⟨hrec, hout⟩
  · exact absurd h hr
  · rw [hrec] at hr ⊢
    rw [hout]
    exact hheld g hr

theorem storeSound_of_gcc (hs : s.storeSound) (hg : t.gcc = s.gcc) (ht : t.store = s.store) : t.storeSound :=
  storeSound_congr ht (fun _ => by simp only [State.group, hg, and_self]) hs

theorem storeSound_setGroup {w : Group} (hs : s.storeSound) (hw : w.keepsOutcome (s.group g)) :
    (s.setGroup g w).storeSound := by
  refine storeSound_of_keepsOutcome (s := s) (by simp) (fun y => ?_) hs
  rw [setGroup_group]
  split
  · next e => exact e ▸ hw
  · exact keepsOutcome_of_state rfl rfl

theorem submit_storeSound (r : Report) (hs : s.storeSound) : (submit r s).storeSound :=
  storeSound_of_gcc hs (by simp) (by simp)

/-! ### Additions and outcomes in a record (R152, R153, R156) -/

/-- R148: a change of the records that keeps their numbers, their groups and which groups have an outcome. -/
theorem TripStore.sound.mapRecords {st : TripStore} (h : st.sound) {f : TripRecord → TripRecord}
    (hf : ∀ r, (f r).number = r.number ∧ (f r).groups = r.groups ∧
      ∀ g : GroupId, (f r).outcomes[g] = .notInSet ↔ r.outcomes[g] = .notInSet) :
    ({ st with records := st.records.map f } : TripStore).sound := by
  obtain ⟨hlen, hnodup, hrecords, hnext, hlost⟩ := h
  have hnumbers : (st.records.map f).map (·.number) = st.records.map (·.number) := by
    rw [List.map_map]
    exact List.map_congr_left fun r _ => (hf r).1
  refine ⟨by simpa using hlen, hnumbers ▸ hnodup, fun x hx => ?_, hnext, hlost⟩
  obtain ⟨r, hr, rfl⟩ := List.mem_map.mp hx
  obtain ⟨hnumber, hgroups, hout⟩ := hf r
  obtain ⟨hne, hset⟩ := hrecords r hr
  exact ⟨hnumber ▸ hne, fun g => by rw [hout, hgroups, hset]⟩

theorem TripStore.sound.update {st : TripStore} (h : st.sound) (n : Half) {f : TripRecord → TripRecord}
    (hf : ∀ r, (f r).number = r.number ∧ (f r).groups = r.groups ∧ (f r).outcomes = r.outcomes) :
    (st.update n f).sound := by
  refine h.mapRecords fun r => ?_
  obtain ⟨hnumber, hgroups, hout⟩ := hf r
  split
  · exact ⟨hnumber, hgroups, fun g => by simp only [hout]⟩
  · exact ⟨rfl, rfl, fun _ => Iff.rfl⟩

theorem update_mem {st : TripStore} {r : TripRecord} (hr : r ∈ st.records) (n : Half) {f : TripRecord → TripRecord}
    (hf : ∀ r, (f r).number = r.number ∧ (f r).groups = r.groups ∧ (f r).outcomes = r.outcomes) :
    ∃ x ∈ (st.update n f).records, x.number = r.number ∧ x.outcomes = r.outcomes := by
  obtain ⟨hnumber, -, hout⟩ := hf r
  refine ⟨_, List.mem_map_of_mem hr, ?_⟩
  split
  · exact ⟨hnumber, hout⟩
  · exact ⟨rfl, rfl⟩

/-- R153, R156: a change of a record that leaves its number, its groups and their outcomes. -/
theorem storeSound_update (hs : s.storeSound) (n : Half) {f : TripRecord → TripRecord}
    (hf : ∀ r, (f r).number = r.number ∧ (f r).groups = r.groups ∧ (f r).outcomes = r.outcomes) :
    ({ s with store := s.store.update n f } : State).storeSound := by
  rw [storeSound_iff] at hs ⊢
  obtain ⟨hstore, hheld⟩ := hs
  refine ⟨hstore.update n hf, fun g hr => ?_⟩
  obtain ⟨r, hmem, hnumber, hout⟩ := hheld g hr
  obtain ⟨x, hx, hxn, hxo⟩ := update_mem hmem n hf
  exact ⟨x, hx, hxn.trans hnumber, (congrArg (·[g]) hxo).trans hout⟩

/-- R139, R152: a verified group is TRIPPED, and CLEARED in its current record. -/
theorem verifyGroup_storeSound (hst : (s.group g).state = .tripping) (hs : s.storeSound) :
    (verifyGroup g s).storeSound := by
  rw [verifyGroup_eq]
  refine submit_storeSound _ ?_
  split
  · next hr => exact storeSound_setGroup hs (.inl hr)
  · next hr =>
    rw [storeSound_iff] at hs ⊢
    obtain ⟨hstore, hheld⟩ := hs
    refine ⟨hstore.setOutcome _ _ (by decide), fun y hy => ?_⟩
    have hgroup : State.group { s.setGroup g { s.group g with state := .tripped, timer := none } with
        store := s.store.setOutcome (s.group g).record g .cleared } y =
        if y = g then { s.group g with state := .tripped, timer := none } else s.group y := setGroup_group s g y _
    rw [hgroup] at hy ⊢
    by_cases hyg : y = g
    · obtain ⟨r, hmem, hnumber, hout⟩ := hheld g hr
      obtain ⟨x, hx, hxn, hxo⟩ := setOutcome_mem hmem (s.group g).record g .cleared
      have hpending : r.outcomes[g] = .pending := by rw [hout, hst]; rfl
      rw [if_pos hyg]
      exact ⟨x, hx, hxn.trans hnumber, by rw [hxo, if_pos ⟨hnumber, hyg, hpending⟩]; rfl⟩
    · rw [if_neg hyg] at hy ⊢
      obtain ⟨r, hmem, hnumber, hout⟩ := hheld y hy
      obtain ⟨x, hx, hxn, hxo⟩ := setOutcome_mem hmem (s.group g).record g .cleared
      exact ⟨x, hx, hxn.trans hnumber, by rw [hxo, if_neg fun h => hyg h.2.1, hout]⟩

theorem testGroup_storeSound (g : GroupId) (hs : s.storeSound) : (testGroup g s).storeSound := by
  unfold testGroup
  split
  · next h => exact verifyGroup_storeSound h.1 hs
  · exact hs

theorem testGroups_storeSound (hs : s.storeSound) : (testGroups s).storeSound :=
  forGroups_induction State.storeSound (fun g _ => testGroup_storeSound g) allGroups s hs

/-! ### A trip (R132, R133, R151) -/

/-- R133 steps 1 and 2, R151: the groups of `hit` take the new record's number with outcome PENDING, and a group whose
record made room for it has none. -/
theorem madeTripping_storeSound (hs : s.storeSound) (cause : TripCause) (hit : GroupId → Bool)
    (ls : List LockedZone) : (s.madeTripping cause hit ls).storeSound := by
  rw [storeSound_iff] at hs ⊢
  obtain ⟨hstore, hheld⟩ := hs
  have hlen : s.store.records.length ≤ 8 := hstore.1
  have hout : ∀ g, (s.recordOf cause hit ls .pending).outcomes[g] = if hit g then .pending else .notInSet := fun g => by
    simp [State.recordOf]
  refine ⟨hstore.create fun g => ?_, fun g hr => ?_⟩
  · rw [hout]
    cases hg : hit g <;> simp [State.recordOf, hg]
  · rw [madeTripping_group] at hr ⊢
    cases hg : hit g with
    | true =>
      simp only [hg, if_true] at hr ⊢
      exact ⟨_, create_mem hlen hr, rfl, (hout g).trans (if_pos hg)⟩
    | false =>
      simp only [hg, Bool.false_eq_true, if_false] at hr ⊢
      have hkept : (s.store.create (s.recordOf cause hit ls .pending)).2.2 ≠ some (s.group g).record :=
        fun h => hr (if_pos h)
      rw [if_neg hkept] at hr ⊢
      obtain ⟨r, hmem, hnumber, hstate⟩ := hheld g hr
      exact ⟨r, mem_create hlen hmem (hnumber ▸ hkept), hnumber, hstate⟩

theorem afterTrip_storeSound (m : GroupSet) (hs : s.storeSound) : (afterTrip m s).storeSound :=
  forGroups_induction State.storeSound (fun g _ => testGroup_storeSound g) (groupList m) _
    (storeSound_of_gcc hs (by simp) (by simp))

theorem trip_storeSound (hs : s.storeSound) (cause : TripCause) (named : GroupId → Bool) (ls : List LockedZone) :
    (trip cause named ls s).1.storeSound := by
  by_cases h : ∀ g, s.hitBy named g = false
  · have hm : groupSet (s.hitBy named) = 0 := (groupSet_eq_zero _).mpr h
    simpa [trip, affected_eq, hm] using hs
  · rw [trip_eq_of_hit h]
    exact afterTrip_storeSound _ (madeTripping_storeSound hs _ _ _)

theorem tripEvery_storeSound (hs : s.storeSound) (cause : TripCause) : (tripEvery cause s).1.storeSound :=
  trip_storeSound hs _ _ _

theorem weld_storeSound {cause : WeldCause} (hs : s.storeSound)
    (hst : cause = .verifyTimeout → (s.group g).state = .tripping) : (weld g cause s).storeSound := by
  rw [weld_eq]
  exact trip_storeSound (weldOf_storeSound hs fun hc _ => hst hc) _ _ _

/-! ### Resets (R147, R154) -/

theorem powerOn_sound : TripStore.powerOn.sound := by simp [TripStore.sound, TripStore.powerOn]

theorem atPinReset_eq_notInSet_iff (o : GroupOutcome) : o.atPinReset = .notInSet ↔ o = .notInSet := by
  cases o <;> simp [GroupOutcome.atPinReset]

/-- R154: a pin reset leaves a sound store sound: an outcome is NOT_IN_SET after it just where it was before. -/
theorem TripStore.sound.pinReset {st : TripStore} (h : st.sound) : st.pinReset.sound :=
  h.mapRecords fun _ => ⟨rfl, rfl, fun _ => by simp [atPinReset_eq_notInSet_iff]⟩

/-- R122: after a reset no group has a current record. -/
theorem blank_storeSound (now : Nat) (b : Straps) (raw : Vector Bool 4) (stop : Bool) {store : TripStore}
    (h : store.sound) (pending : List Instr) : (State.blank now b raw stop store pending).storeSound := by
  refine (storeSound_iff _).mpr ⟨h, fun g hr => absurd ?_ hr⟩
  simp [State.group, State.blank, Contactors.reset, Group.reset]

/-! ### Supervision (R33, R114, R135) -/

theorem stuckOnTrip_storeSound (z : ZoneId) (hs : s.storeSound) : (stuckOnTrip z s).1.storeSound := by
  unfold stuckOnTrip
  dsimp only
  split
  · split
    · exact hs
    · exact storeSound_update hs _ fun _ => ⟨rfl, rfl, rfl⟩
  · exact trip_storeSound hs _ _ _

theorem stuckOnLatch_storeSound (z : ZoneId) (hs : s.storeSound) : (stuckOnLatch z s).storeSound := by
  unfold stuckOnLatch
  split
  · exact hs
  · exact submit_storeSound _ (stuckOnTrip_storeSound z (storeSound_of_gcc hs (by simp) (by simp)))

theorem stuckStrike_storeSound (z : ZoneId) (hs : s.storeSound) : (stuckStrike z s).storeSound := by
  unfold stuckStrike
  dsimp only
  split
  · split
    · exact stuckOnLatch_storeSound z (storeSound_of_gcc hs (by simp) (by simp))
    · exact storeSound_of_gcc hs (by simp) (by simp)
  · exact hs

theorem applyCheck_storeSound (z : ZoneId) (c : CheckResult) (hs : s.storeSound) : (applyCheck z c s).storeSound := by
  unfold applyCheck
  split
  · exact hs
  · split <;> exact storeSound_of_gcc hs (by simp) (by simp)
  · split
    · exact stuckStrike_storeSound z (storeSound_of_gcc hs (by simp) (by simp))
    · exact storeSound_of_gcc hs (by simp) (by simp)

theorem conductionChecks_storeSound (cs : ZoneSet) (hs : s.storeSound) : (conductionChecks cs s).storeSound :=
  forZones_induction State.storeSound (fun z _ => applyCheck_storeSound z _) allZones s hs

theorem midPoint_storeSound (cs : ZoneSet) (first : Bool) (hs : s.storeSound) :
    (midPoint cs first s).storeSound := by
  have sampled : (s.sampled cs).storeSound := storeSound_of_gcc hs rfl rfl
  rw [midPoint_eq]
  split
  · exact conductionChecks_storeSound cs (testGroups_storeSound sampled)
  · exact testGroups_storeSound (conductionChecks_storeSound cs sampled)

theorem supplyLatch_storeSound (hs : s.storeSound) : (supplyLatch s).storeSound := by
  unfold supplyLatch
  split
  · refine tripEvery_storeSound ?_ .supplyFault
    exact storeSound_of_gcc hs rfl rfl
  · exact hs

theorem checkSupply_storeSound (r : DriveRecord) (hs : s.storeSound) : (checkSupply r s).storeSound := by
  refine supplyLatch_storeSound (storeSound_of_gcc hs ?_ ?_) <;> split <;> simp

theorem supervisionAtCrossing_storeSound (c : Crossing) (hs : s.storeSound) :
    (supervisionAtCrossing c s).storeSound := by
  obtain ⟨u, hu, he⟩ := exists_supervisionAtCrossing c s
  have checked : u.storeSound := by
    rcases hu with rfl | ⟨r, rfl⟩
    · exact hs
    · exact checkSupply_storeSound r hs
  rw [he]
  refine storeSound_of_gcc checked ?_ ?_ <;> split <;> simp

/-! ### Crossings (R128) -/

theorem contactorsAtCrossing_storeSound (hs : s.storeSound) : (contactorsAtCrossing s).storeSound := by
  refine storeSound_congr (s := s) (by simp) (fun g => ?_) hs
  rw [contactorsAtCrossing_group]
  split <;> exact ⟨rfl, rfl⟩

theorem takeCrossing_storeSound (c : Crossing) (k : Taker) (hs : s.storeSound) :
    (takeCrossing c k s).storeSound := by
  unfold takeCrossing
  split
  · exact storeSound_of_gcc hs (by simp) (by simp)
  · exact supervisionAtCrossing_storeSound c hs
  · exact contactorsAtCrossing_storeSound hs
  · exact storeSound_of_gcc hs (by simp) (by simp)
  · split
    · exact storeSound_of_gcc hs (by simp) (by simp)
    · exact hs

theorem handOn_storeSound (order : List Taker) (c : Crossing) (hs : s.storeSound) : (handOn order c s).storeSound :=
  handOn_induction (P := State.storeSound) (fun k _ => takeCrossing_storeSound c k) order hs

/-! ### Raw lines and aux changes (R123) -/

theorem rawChange_storeSound (line : RawLine) (level : Bool) (hs : s.storeSound) :
    (rawChange line level s).storeSound := by
  cases line with
  | ka g => exact storeSound_setGroup hs (keepsOutcome_of_state rfl rfl)
  | stop => exact storeSound_congr (s := s) rfl (fun _ => ⟨rfl, rfl⟩) hs

/-- R123, R126, R129 to R131, R138: each rule that handles a changed aux. -/
theorem auxHandled_storeSound {v : Group} (hs : s.storeSound) (hv : v.keepsOutcome (s.group g)) :
    (auxHandled g (s.setGroup g v)).storeSound := by
  have changed : (s.setGroup g v).storeSound := storeSound_setGroup hs hv
  have rewritten : ∀ {w : Group}, w.record = v.record → w.state.outcome = v.state.outcome →
      (s.setGroup g w).storeSound := fun hr ho =>
    storeSound_setGroup hs (hv.imp hr.trans fun ⟨hrec, hout⟩ => ⟨hr.trans hrec, ho.trans hout⟩)
  cases hst : v.state with
  | opened =>
    rw [auxHandled_at_rest s (.inl hst)]
    exact rewritten rfl rfl
  | tripped =>
    rw [auxHandled_at_rest s (.inr hst)]
    exact rewritten rfl rfl
  | closing =>
    rw [auxHandled_closing s hst]
    split
    · exact submit_storeSound _ (rewritten rfl (by rw [hst]; rfl))
    · exact changed
  | closed =>
    rw [auxHandled_closed s hst]
    split
    · exact changed
    · exact trip_storeSound changed _ _ _
  | opening =>
    rw [auxHandled_opening s hst]
    split
    · exact changed
    · exact submit_storeSound _ (rewritten rfl (by rw [hst]; rfl))
  | tripping =>
    rw [auxHandled_tripping s hst]
    split
    · exact verifyGroup_storeSound (by rwa [setGroup_group_self]) changed
    · exact changed
  | welded =>
    rw [auxHandled_welded s hst]
    exact changed

theorem auxChange_storeSound (g : GroupId) (hs : s.storeSound) : (auxChange g s).storeSound := by
  cases hsince : (s.group g).rawAuxSince with
  | none => simpa [auxChange, hsince] using hs
  | some since =>
    rw [auxChange_eq hsince]
    exact auxHandled_storeSound (s := s.atTime (since + 400)) hs (keepsOutcome_of_state rfl rfl)

/-- R137: STOP, asserted, trips every group. -/
theorem stopChange_storeSound (hs : s.storeSound) : (stopChange s).storeSound := by
  cases hsince : s.gcc.rawStopSince with
  | none => simpa [stopChange, hsince] using hs
  | some since =>
    have changed : (s.stopChanged since).storeSound := storeSound_congr (s := s) rfl (fun _ => ⟨rfl, rfl⟩) hs
    rw [stopChange_eq hsince]
    split
    · exact changed
    · exact trip_storeSound changed _ _ _

/-! ### Timers (R126, R129, R138, R140, R142) -/

theorem closeFailed_storeSound (hst : (s.group g).state = .closing) (hs : s.storeSound) :
    (closeFailed g s).storeSound :=
  submit_storeSound _ (storeSound_setGroup hs (.inr ⟨rfl, by rw [hst]; rfl⟩))

theorem openExpired_storeSound (g : GroupId) (hs : s.storeSound) : (openExpired g s).storeSound := by
  unfold openExpired
  split
  · exact weld_storeSound hs nofun
  · exact hs

theorem verifyExpired_storeSound (hst : (s.group g).state = .tripping) (hs : s.storeSound) :
    (verifyExpired g s).storeSound := by
  unfold verifyExpired
  split
  · exact verifyGroup_storeSound hst hs
  · exact weld_storeSound hs fun _ => hst

end Sys2Proof.Machine
end

section
/-! SUPPORT. What the requests leave of the trip record store and of the groups' current records, and every command by
its parts. Settles O12. -/

namespace Sys2Proof.Machine

variable {s : State}

/-! ### Requests -/

/-- R156: a release marks a record, and nothing else of it. -/
theorem answerReleaseTripRecord_storeSound (n : Half) (hs : s.storeSound) :
    (answerReleaseTripRecord n s).state.storeSound := by
  unfold answerReleaseTripRecord
  split
  · exact hs
  · split
    · exact hs
    · exact storeSound_update hs n fun _ => ⟨rfl, rfl, rfl⟩

/-- R125: a close takes an OPEN group. -/
theorem answerCloseGroup_storeSound (g : GroupId) (hs : s.storeSound) : (answerCloseGroup g s).state.storeSound := by
  rcases answerCloseGroup_taken g s with e | ⟨-, -, hst, -, e⟩
  · rwa [e]
  · rw [e]
    exact storeSound_setGroup hs (.inr ⟨rfl, by rw [hst]; rfl⟩)

theorem withdrawnOf_store (s : State) (hit : GroupId → Bool) (r : HaltReason) :
    (s.withdrawnOf hit r).store = s.store := by
  simp only [State.withdrawnOf]

/-- R127 to R129: an OPEN_GROUP changes the state of CLOSED and CLOSING groups alone, to OPENING or OPEN; R148: none of
the four stands for an outcome. -/
theorem answerOpenGroup_storeSound (g : GroupId) (hgroups : s.groupsSound) (hs : s.storeSound) :
    (answerOpenGroup g s).state.storeSound := by
  obtain ⟨hsound, -⟩ := hgroups
  have opened : ∀ {w : Group}, w.keepsOutcome (s.group g) →
      ((s.withdrawnOf (fun y => y == g) .groupOpened).setGroup g w).storeSound := fun hw =>
    storeSound_setGroup (storeSound_of_gcc hs (withdrawnOf_gcc s _ _) (withdrawnOf_store s _ _))
      (by rwa [State.group, withdrawnOf_gcc])
  cases hst : (s.group g).state with
  | closed =>
    rw [answerOpenGroup_closed hst ((hsound g).aux_of_closed hst)]
    refine opened (.inr ?_)
    unfold State.openingFromClosed
    split <;> exact ⟨rfl, by rw [hst]; rfl⟩
  | closing =>
    obtain ⟨-, -, ha, -⟩ := (sound_of_closing hst).mp (hsound g)
    rw [answerOpenGroup_closing hst ha]
    exact submit_storeSound _ (opened (.inr ⟨rfl, by rw [hst]; rfl⟩))
  | _ => simpa [answerOpenGroup, hst, State.grantGroup, State.grant, State.deny] using hs

/-- The requests that make no record and release none leave the store. -/
theorem answer_store (r : Request) (s : State) (htrip : r ≠ .tripAll) (hrelease : ∀ n, r ≠ .releaseTripRecord n) :
    (answer r s).state.store = s.store := by
  cases r with
  | tripAll => exact absurd rfl htrip
  | releaseTripRecord n => exact absurd rfl (hrelease n)
  | setFrame => unfold answer answerSetFrame; dsimp only; (repeat' split) <;> rfl
  | configZone => unfold answer answerConfigZone; dsimp only; split <;> simp [State.grant, State.deny]
  | enableZone => unfold answer answerEnableZone; dsimp only; (repeat' split) <;> simp [State.grant, State.deny]
  | disableZone => unfold answer answerDisableZone; dsimp only; split <;> simp [State.grant, State.deny]
  | setDemand =>
    unfold answer answerSetDemand State.setDemand
    dsimp only
    (repeat' split) <;> simp [State.grantDemand, State.grant, State.deny]
  | clearZone => unfold answer answerClearZone; dsimp only; (repeat' split) <;> simp [State.grant, State.deny]
  | queueOrder =>
    unfold answer answerQueueOrder State.appendOrder State.orderAccepted
    dsimp only
    (repeat' split) <;> simp [State.grant, State.deny]
  | abortOrder =>
    unfold answer answerAbortOrder abortBehind
    dsimp only
    (repeat' split) <;> simp [State.grant, State.deny]
  | clearTally => simp [answer, answerClearTally, State.grant]
  | closeGroup g =>
    rcases answerCloseGroup_taken (groupNumber g) s with e | ⟨-, -, -, -, e⟩ <;>
      exact (congrArg State.store e :)
  | openGroup g =>
    unfold answer answerOpenGroup
    dsimp only
    split <;> simp [State.grantGroup, State.grant, State.deny]
  | ackTrip g =>
    rcases answerAckTrip_cases (groupNumber g) s with e | ⟨-, e⟩ <;>
      exact (congrArg State.store e :)
  | readTripRecord n => exact (congrArg State.store (answerReadTripRecord_state n s) :)
  | _ => rfl

theorem answer_storeSound (r : Request) (hgroups : s.groupsSound) (hs : s.storeSound) :
    (answer r s).state.storeSound := by
  cases r with
  | closeGroup g => exact answerCloseGroup_storeSound _ hs
  | openGroup g => exact answerOpenGroup_storeSound _ hgroups hs
  | ackTrip g =>
    rcases answerAckTrip_cases (groupNumber g) s with e | ⟨-, e⟩
    · rwa [answer, e]
    · rw [answer, e]
      exact storeSound_setGroup hs (.inl rfl)
  | tripAll => exact tripEvery_storeSound hs .host
  | setContactorTiming c o v => exact storeSound_congr (s := s) rfl (fun _ => ⟨rfl, rfl⟩) hs
  | releaseTripRecord n => exact answerReleaseTripRecord_storeSound n hs
  | _ =>
    refine storeSound_of_gcc hs ?_ ?_
    · exact answer_gcc _ s nofun nofun nofun nofun nofun
    · exact answer_store _ s nofun nofun

/-! ### Every command -/

/-- R147 to R154: what each part of a command keeps of the store, beside the groups, whose states say which timer
runs. -/
theorem storeSound_keptByParts : KeptByParts fun s => s.groupsSound ∧ s.storeSound := by
  have k := groupsSound_keptByParts
  have timerDue : ∀ {s : State} {g kind}, s.groupsSound → (s.group g).runs kind = true →
      (s.group g).timerDue = some kind := fun {_ g _} hg hr => (hg.1 g).timerDue_of_runs hr
  exact {
    frame := fun hb ⟨hg, hs⟩ => ⟨k.frame hb hg, by
      obtain ⟨-, -, -, -, -, -, hgcc, hstore⟩ := hb
      exact storeSound_of_gcc hs hgcc hstore⟩
    power := fun _ _ _ _ _ => ⟨k.power _ _ _ _ _, blank_storeSound _ _ _ _ powerOn_sound _⟩
    pin := fun _ _ _ _ _ ⟨hg, hs⟩ => ⟨k.pin _ _ _ _ _ hg,
      blank_storeSound _ _ _ _ ((storeSound_iff _).mp hs).1.pinReset _⟩
    retime := fun m hst hlen hframe hh ⟨hg, hs⟩ => ⟨k.retime m hst hlen hframe hh hg, storeSound_of_gcc hs rfl rfl⟩
    lock := fun order hst h8 hlen ⟨hg, hs⟩ => ⟨k.lock order hst h8 hlen hg,
      handOn_storeSound order _ (storeSound_of_gcc hs rfl rfl)⟩
    cross := fun order ref syn hm hl ⟨hg, hs⟩ => ⟨k.cross order ref syn hm hl hg,
      handOn_storeSound order _ (storeSound_of_gcc hs rfl rfl)⟩
    lose := fun hl ⟨hg, hs⟩ => ⟨k.lose hl hg, storeSound_of_gcc hs (by simp) (by simp)⟩
    point := fun cs first hl ⟨hg, hs⟩ => ⟨k.point cs first hl hg, midPoint_storeSound cs first hs⟩
    reading := fun v ⟨hg, hs⟩ => ⟨k.reading v hg, storeSound_of_gcc hs (by simp) (by simp)⟩
    raw := fun line level ⟨hg, hs⟩ => ⟨k.raw line level hg, rawChange_storeSound line level hs⟩
    aux := fun g ⟨hg, hs⟩ => ⟨k.aux g hg, auxChange_storeSound g hs⟩
    stop := fun ⟨hg, hs⟩ => ⟨k.stop hg, stopChange_storeSound hs⟩
    closeTimer := fun g hr ⟨hg, hs⟩ => ⟨k.closeTimer g hr hg,
      closeFailed_storeSound (state_of_timerDue.1 (timerDue hg hr)) hs⟩
    releaseTimer := fun g hr ⟨hg, hs⟩ => ⟨k.releaseTimer g hr hg,
      storeSound_setGroup hs (keepsOutcome_of_state rfl rfl)⟩
    openTimer := fun g hr ⟨hg, hs⟩ => ⟨k.openTimer g hr hg, openExpired_storeSound g hs⟩
    verifyTimer := fun g hr ⟨hg, hs⟩ => ⟨k.verifyTimer g hr hg,
      verifyExpired_storeSound (state_of_timerDue.2.2 (timerDue hg hr)) hs⟩
    stuckTimer := fun g hr ⟨hg, hs⟩ => ⟨k.stuckTimer g hr hg, weld_storeSound hs nofun⟩
    answered := fun r hm hr ⟨hg, hs⟩ => ⟨k.answered r hm hr hg, answer_storeSound r hg hs⟩ }

/-- Settles O12: every step keeps what the parts of its command keep. -/
theorem stepKeepsTheTripRecordStoreSound : Obligations.StepKeepsTheTripRecordStoreSound := by
  intro s t hs h
  obtain ⟨hm, -, -, -, -, hgroups, -, hstore, -⟩ := hs
  obtain ⟨-, ht⟩ := storeSound_keptByParts.step hm ⟨hgroups, hstore⟩ h
  exact ht

end Sys2Proof.Machine
end

section
/-! SUPPORT. The report queue by its entries: the numbers that count up from the oldest, the three runs of what is
sent, what was ever sent and the rest, and what a submission makes of them. Settles O40. -/

namespace Sys2Proof.Machine

/-! ### Numbers that count up (R161, R163) -/

/-- Bytes that count up by one from `b`, mod 256. -/
def countsFrom : Byte → List Byte → Prop
  | _, [] => True
  | b, x :: xs => x = b ∧ countsFrom (b + 1) xs

theorem countsFrom_append (b : Byte) (xs ys : List Byte) :
    countsFrom b (xs ++ ys) ↔ countsFrom b xs ∧ countsFrom (b + BitVec.ofNat 8 xs.length) ys := by
  induction xs generalizing b with
  | nil => simp [countsFrom]
  | cons x xs ih =>
    have hnext : b + 1 + BitVec.ofNat 8 xs.length = b + BitVec.ofNat 8 (xs.length + 1) := by
      rw [BitVec.add_assoc, BitVec.add_comm 1, BitVec.ofNat_add]
      rfl
    simp only [List.cons_append, countsFrom, ih, hnext, List.length_cons, and_assoc]

theorem countsFrom_map_sub_one {b : Byte} {xs : List Byte} (h : countsFrom b xs) :
    countsFrom (b - 1) (xs.map (· - 1)) := by
  induction xs generalizing b with
  | nil => trivial
  | cons x xs ih =>
    obtain ⟨rfl, hxs⟩ := h
    have hnext : x + 1 - 1 = x - 1 + 1 := by bv_omega
    exact ⟨rfl, hnext ▸ ih hxs⟩

theorem countsFrom_iff_range (b : Byte) (xs : List Byte) :
    countsFrom b xs ↔ xs = (List.range xs.length).map fun i => b + BitVec.ofNat 8 i := by
  induction xs generalizing b with
  | nil => simp [countsFrom]
  | cons x xs ih =>
    have hshift : ((fun i => b + BitVec.ofNat 8 i) ∘ Nat.succ) = fun i => b + 1 + BitVec.ofNat 8 i := by
      funext i
      rw [Function.comp_apply, BitVec.add_assoc, BitVec.add_comm 1, Nat.succ_eq_add_one, BitVec.ofNat_add]
      rfl
    rw [countsFrom, ih, List.length_cons, List.range_succ_eq_map, List.map_cons, List.map_map, hshift,
      List.cons.injEq]
    simp

/-- R159: consecutive numbers up to the next one count up from the oldest. -/
theorem countsFrom_iff_below (next : Byte) (xs : List Byte) :
    countsFrom (next - BitVec.ofNat 8 xs.length) xs ↔
      xs = (List.range xs.length).map fun i => next - BitVec.ofNat 8 (xs.length - i) := by
  rw [countsFrom_iff_range]
  have hnumbers : ((List.range xs.length).map fun i => next - BitVec.ofNat 8 xs.length + BitVec.ofNat 8 i) =
      (List.range xs.length).map fun i => next - BitVec.ofNat 8 (xs.length - i) := by
    refine List.map_congr_left fun i hi => ?_
    have hsplit : BitVec.ofNat 8 xs.length = BitVec.ofNat 8 (xs.length - i) + BitVec.ofNat 8 i := by
      rw [← BitVec.ofNat_add, Nat.sub_add_cancel (List.mem_range.mp hi).le]
    rw [hsplit]
    bv_omega
  rw [hnumbers]

/-! ### Sound entries (R159, R165) -/

/-- R159: at most 48 entries, numbered up to the next number, in the three runs, at most 4 ever sent. -/
def entriesSound (next : Byte) (es : List QueueEntry) : Prop :=
  es.length ≤ 48 ∧ countsFrom (next - BitVec.ofNat 8 es.length) (es.map (·.seq)) ∧ es.Pairwise sentBefore ∧
  (∀ e ∈ es, e.sent = true → e.everSent = true) ∧ es.countP (fun e => e.everSent) ≤ 4

/-- R164, R168, R169: a sound queue, its entries apart. -/
theorem queue_sound_iff (q : ReportQueue) : q.sound ↔ entriesSound q.nextSeq q.entries ∧
    (0 < q.lostPending → q.entries.length = 48) ∧ q.lostPending ≤ 65535 ∧ q.lostTotal ≤ 4294967295 ∧
    q.generated = q.acknowledged + BitVec.ofNat 32 q.entries.length + q.lost ∧
    (q.alert = true ↔ q.entries ≠ []) := by
  have hnumbers := countsFrom_iff_below q.nextSeq (q.entries.map (·.seq))
  rw [List.length_map] at hnumbers
  unfold ReportQueue.sound entriesSound
  rw [hnumbers]
  simp only [and_assoc]
  rfl

/-- R161: the entry of a report that enters. -/
def enteredAs (r : Report) (n : Byte) : QueueEntry := { report := r, seq := n, sent := false, everSent := false }

/-- R163: an entry behind an evicted one, numbered one lower. -/
def QueueEntry.lowered (e : QueueEntry) : QueueEntry := { e with seq := e.seq - 1 }

namespace entriesSound

variable {n : Byte} {es a b : List QueueEntry} {e : QueueEntry}

/-- R161: an entry that was never sent enters at the tail. -/
theorem enter (h : entriesSound n es) (hlen : es.length < 48) (r : Report) :
    entriesSound (n + 1) (es ++ [enteredAs r n]) := by
  obtain ⟨-, hseq, hruns, hsent, hever⟩ := h
  refine ⟨by simpa using hlen, ?_, ?_, ?_, by simpa [enteredAs] using hever⟩
  · have hfirst : n + 1 - BitVec.ofNat 8 (es.length + 1) = n - BitVec.ofNat 8 es.length := by
      rw [BitVec.ofNat_add]
      bv_omega
    rw [List.length_append, List.length_singleton, hfirst, List.map_append, countsFrom_append]
    exact ⟨hseq, by simp [countsFrom, enteredAs]⟩
  · rw [List.pairwise_append]
    refine ⟨hruns, List.pairwise_singleton _ _, fun x _ y hy => ?_⟩
    obtain rfl := List.mem_singleton.mp hy
    exact ⟨nofun, nofun⟩
  · intro x hx
    rcases List.mem_append.mp hx with hx | hx
    · exact hsent x hx
    · obtain rfl := List.mem_singleton.mp hx
      exact nofun

/-- R163: an entry that was never sent leaves, and those behind it take the numbers before theirs. -/
theorem evict (h : entriesSound n (a ++ e :: b)) (he : e.everSent = false) :
    entriesSound (n - 1) (a ++ b.map QueueEntry.lowered) := by
  obtain ⟨hlen, hseq, hruns, hsent, hever⟩ := h
  have hcount : (b.map QueueEntry.lowered).countP (fun x => x.everSent) = b.countP fun x => x.everSent := by
    rw [List.countP_map]
    rfl
  simp only [List.length_append, List.length_cons, List.map_append, List.map_cons, countsFrom_append,
    List.length_map, countsFrom] at hlen hseq
  obtain ⟨hnumbersA, -, hnumbersB⟩ := hseq
  rw [List.pairwise_append, List.pairwise_cons] at hruns
  obtain ⟨hrunsA, ⟨-, hrunsB⟩, hcross⟩ := hruns
  refine ⟨by simp only [List.length_append, List.length_map]; omega, ?_, ?_, ?_, ?_⟩
  · have hfirst : n - 1 - BitVec.ofNat 8 (a.length + b.length) =
        n - BitVec.ofNat 8 (a.length + (b.length + 1)) := by
      rw [← Nat.add_assoc, BitVec.ofNat_add (a.length + b.length) 1]
      bv_omega
    have hlowered : (b.map QueueEntry.lowered).map (·.seq) = (b.map (·.seq)).map (· - 1) := by
      rw [List.map_map, List.map_map]
      rfl
    rw [List.map_append, List.length_append, List.length_map, hfirst, hlowered, countsFrom_append, List.length_map]
    refine ⟨hnumbersA, ?_⟩
    have hlow := countsFrom_map_sub_one hnumbersB
    rwa [BitVec.add_sub_cancel] at hlow
  · rw [List.pairwise_append, List.pairwise_map]
    refine ⟨hrunsA, hrunsB, fun x hx y hy => ?_⟩
    obtain ⟨w, hw, rfl⟩ := List.mem_map.mp hy
    exact hcross x hx w (List.mem_cons_of_mem e hw)
  · intro x hx
    rcases List.mem_append.mp hx with hx | hx
    · exact hsent x (List.mem_append_left _ hx)
    · obtain ⟨y, hy, rfl⟩ := List.mem_map.mp hx
      exact hsent y (List.mem_append_right _ (List.mem_cons_of_mem e hy))
  · rw [List.countP_append, hcount]
    simpa [List.countP_append, List.countP_cons, he] using hever

end entriesSound

/-! ### The entry that an eviction takes (R163) -/

theorem evictNewest_of_none {es : List QueueEntry} (h : ∀ x ∈ es, x.evictable = false) :
    evictNewest es = none := by
  induction es with
  | nil => rfl
  | cons x es ih =>
    obtain ⟨hx, hes⟩ := List.forall_mem_cons.mp h
    rw [evictNewest, ih hes]
    simp [hx]

theorem evictNewest_of_newest {a b : List QueueEntry} {e : QueueEntry} (he : e.evictable = true)
    (hb : ∀ x ∈ b, x.evictable = false) :
    evictNewest (a ++ e :: b) = some (a ++ b.map QueueEntry.lowered) := by
  induction a with
  | nil =>
    rw [List.nil_append, evictNewest, evictNewest_of_none hb]
    simp only [he, if_true]
    rfl
  | cons x a ih => rw [List.cons_append, evictNewest, ih, List.cons_append]

/-- An eviction finds no entry, or a newest one. -/
theorem evictable_cases (es : List QueueEntry) : (∀ x ∈ es, x.evictable = false) ∨
    ∃ a e b, es = a ++ e :: b ∧ e.evictable = true ∧ ∀ x ∈ b, x.evictable = false := by
  induction es with
  | nil => exact .inl nofun
  | cons x es ih =>
    rcases ih with hnone | ⟨a, e, b, rfl, he, hb⟩
    · cases hx : x.evictable with
      | false => exact .inl (List.forall_mem_cons.mpr ⟨hx, hnone⟩)
      | true => exact .inr ⟨[], x, es, rfl, hx, hnone⟩
    · exact .inr ⟨x :: a, e, b, rfl, he, hb⟩

theorem evictable_iff (e : QueueEntry) :
    e.evictable = true ↔ e.report.critical = false ∧ e.everSent = false := by
  simp [QueueEntry.evictable]

theorem not_evictable_iff (e : QueueEntry) :
    e.evictable = false ↔ ¬ (e.report.critical = false ∧ e.everSent = false) := by
  rw [← evictable_iff, Bool.not_eq_true]

/-! ### A submission, case by case (R160 to R163) -/

theorem generates_iff (q : ReportQueue) (r : Report) : q.generates r = true ↔
    r.critical = true ∨ r.classBit = none ∨ ∃ n, r.classBit = some n ∧ q.mask.getLsbD n = true := by
  unfold ReportQueue.generates
  cases r.classBit <;> simp

/-- R162, R163: a generated report that is lost. -/
def ReportQueue.losing (q : ReportQueue) : ReportQueue :=
  { q with
    generated := q.generated + 1, lost := q.lost + 1,
    lostPending := min 65535 (q.lostPending + 1), lostTotal := min 4294967295 (q.lostTotal + 1) }

/-- R161, R169: a generated report that enters. -/
def ReportQueue.entering (q : ReportQueue) (r : Report) : ReportQueue :=
  { q with
    generated := q.generated + 1, entries := q.entries ++ [enteredAs r q.nextSeq], nextSeq := q.nextSeq + 1,
    alert := true }

variable {q : ReportQueue} {r : Report}

theorem offer_of_masked (hm : q.generates r = false) : q.offer r = q := by
  rw [ReportQueue.offer, hm]
  rfl

theorem generates_of_critical (hr : r.critical = true) : q.generates r = true := by
  rw [ReportQueue.generates, hr, Bool.true_or]

theorem generate_of_room (hlen : q.entries.length < 48) :
    q.generate r = { q with generated := q.generated + 1 }.enter r := if_pos hlen

theorem generate_of_full_ordinary (hlen : q.entries.length = 48) (hr : r.critical = false) :
    q.generate r = q.losing := by
  have hfull : ¬ q.entries.length < Config.reportDepth := by rw [hlen]; exact Nat.lt_irrefl 48
  refine (if_neg hfull).trans ?_
  rw [hr]
  rfl

theorem generate_of_full_critical (hlen : q.entries.length = 48) (hr : r.critical = true) :
    q.generate r = (evictNewest q.entries).elim q.losing fun es =>
      { q.losing with entries := es, nextSeq := q.nextSeq - 1 }.enter r := by
  have hfull : ¬ q.entries.length < Config.reportDepth := by rw [hlen]; exact Nat.lt_irrefl 48
  refine (if_neg hfull).trans ?_
  rw [hr]
  cases evictNewest q.entries <;> rfl

theorem offer_of_room (hm : q.generates r = true) (hlen : q.entries.length < 48)
    (ha : q.alert = true ↔ q.entries ≠ []) : q.offer r = q.entering r := by
  have halert : (q.alert || q.entries.isEmpty) = true := by
    rw [Bool.or_eq_true, ha, List.isEmpty_iff]
    exact (em _).symm
  rw [ReportQueue.offer, if_pos hm, generate_of_room hlen, ReportQueue.enter]
  simp only [halert]
  rfl

theorem offer_of_full_ordinary (hm : q.generates r = true) (hlen : q.entries.length = 48)
    (hr : r.critical = false) : q.offer r = q.losing := by
  rw [ReportQueue.offer, if_pos hm, generate_of_full_ordinary hlen hr]

theorem offer_of_full_critical (hlen : q.entries.length = 48) (hr : r.critical = true)
    (hnone : ∀ x ∈ q.entries, x.evictable = false) : q.offer r = q.losing := by
  rw [ReportQueue.offer, if_pos (generates_of_critical hr), generate_of_full_critical hlen hr,
    evictNewest_of_none hnone, Option.elim_none]

theorem offer_of_eviction {a b : List QueueEntry} {e : QueueEntry} (hes : q.entries = a ++ e :: b)
    (hlen : q.entries.length = 48) (hr : r.critical = true) (ha : q.alert = true) (he : e.evictable = true)
    (hb : ∀ x ∈ b, x.evictable = false) : q.offer r = { q.losing with
      entries := a ++ b.map QueueEntry.lowered ++ [enteredAs r (q.nextSeq - 1)] } := by
  rw [ReportQueue.offer, if_pos (generates_of_critical hr), generate_of_full_critical hlen hr, hes,
    evictNewest_of_newest he hb, Option.elim_some]
  simp only [ReportQueue.enter, ReportQueue.losing, BitVec.sub_add_cancel, ha, Bool.true_or]
  rfl

/-- Settles O40: a masked, an entering, a dropped and an evicting report each by its own case. -/
theorem reportEntersEvictsOrIsLost : Obligations.ReportEntersEvictsOrIsLost := by
  intro q r hq made evictable lost
  obtain ⟨-, -, -, -, -, halert⟩ := (queue_sound_iff q).mp hq
  refine ⟨fun hmade => ?_, fun hmade hlen => ?_, fun hmade hlen hr => ?_, fun a e b hes hlen hr he hb => ?_,
    fun hlen hr hnone => ?_⟩
  · exact offer_of_masked (by rwa [← Bool.not_eq_true, generates_iff])
  · exact offer_of_room ((generates_iff q r).mpr hmade) hlen halert
  · exact offer_of_full_ordinary ((generates_iff q r).mpr hmade) hlen hr
  · have hne : q.entries ≠ [] := by simp [hes]
    exact offer_of_eviction hes hlen hr (halert.mpr hne) ((evictable_iff e).mpr he)
      fun x hx => (not_evictable_iff x).mpr (hb x hx)
  · exact offer_of_full_critical hlen hr fun x hx => (not_evictable_iff x).mpr (hnone x hx)

/-! ### A submission keeps the queue sound (R159, R164, R168, R169) -/

/-- R162, R163: a full queue that loses a report. -/
theorem losing_sound (hq : q.sound) (hlen : q.entries.length = 48) : q.losing.sound := by
  obtain ⟨hentries, -, hpend, htotal, hbalance, halert⟩ := (queue_sound_iff q).mp hq
  refine (queue_sound_iff _).mpr ⟨hentries, fun _ => hlen, Nat.min_le_left _ _, Nat.min_le_left _ _, ?_, halert⟩
  simp only [ReportQueue.losing, hbalance, BitVec.add_assoc]

/-- R161: below 48 entries no report is lost since the last REPORTS_LOST, and the queue takes one more. -/
theorem entering_sound (hq : q.sound) (hlen : q.entries.length < 48) (r : Report) : (q.entering r).sound := by
  obtain ⟨hentries, hfull, hpend, htotal, hbalance, -⟩ := (queue_sound_iff q).mp hq
  have hnone : q.lostPending = 0 := by
    by_contra h
    exact absurd (hfull (Nat.pos_of_ne_zero h)) hlen.ne
  refine (queue_sound_iff _).mpr ⟨hentries.enter hlen r, by simp [ReportQueue.entering, hnone], hpend, htotal, ?_,
    by simp [ReportQueue.entering]⟩
  simp only [ReportQueue.entering, hbalance, List.length_append, List.length_singleton, BitVec.ofNat_add]
  bv_omega

/-- R163: a full queue in which a report takes the place of an entry that was never sent. -/
theorem evicting_sound (hq : q.sound) (hlen : q.entries.length = 48) {a b : List QueueEntry} {e : QueueEntry}
    (hes : q.entries = a ++ e :: b) (he : e.everSent = false) (r : Report) : { q.losing with
      entries := a ++ b.map QueueEntry.lowered ++ [enteredAs r (q.nextSeq - 1)] }.sound := by
  obtain ⟨hentries, -, -, -, -, halert⟩ := (queue_sound_iff q).mp hq
  obtain ⟨-, -, hpend, htotal, hbalance, -⟩ := (queue_sound_iff _).mp (losing_sound hq hlen)
  have hleft : (a ++ b.map QueueEntry.lowered).length + 1 = 48 := by
    rw [hes] at hlen
    simpa [Nat.add_assoc] using hlen
  have hcount : (a ++ b.map QueueEntry.lowered ++ [enteredAs r (q.nextSeq - 1)]).length = 48 := by
    rw [List.length_append, List.length_singleton, hleft]
  have hfull : q.alert = true := halert.mpr (by simp [hes])
  rw [hes] at hentries
  have hentered := (hentries.evict he).enter (by omega) r
  rw [BitVec.sub_add_cancel] at hentered
  refine (queue_sound_iff _).mpr ⟨hentered, fun _ => hcount, hpend, htotal, ?_, by simp [ReportQueue.losing, hfull]⟩
  dsimp only
  rw [hcount, ← hlen]
  exact hbalance

/-- R160 to R163: a submission keeps the queue sound. -/
theorem offer_sound (hq : q.sound) (r : Report) : (q.offer r).sound := by
  obtain ⟨⟨hdepth, -⟩, -, -, -, -, halert⟩ := (queue_sound_iff q).mp hq
  cases hm : q.generates r with
  | false => rwa [offer_of_masked hm]
  | true =>
    rcases Nat.lt_or_eq_of_le hdepth with hlen | hlen
    · rw [offer_of_room hm hlen halert]
      exact entering_sound hq hlen r
    · cases hr : r.critical with
      | false =>
        rw [offer_of_full_ordinary hm hlen hr]
        exact losing_sound hq hlen
      | true =>
        rcases evictable_cases q.entries with hnone | ⟨a, e, b, hes, he, hb⟩
        · rw [offer_of_full_critical hlen hr hnone]
          exact losing_sound hq hlen
        · obtain ⟨-, hever⟩ := (evictable_iff e).mp he
          rw [offer_of_eviction hes hlen hr (halert.mpr (by simp [hes])) he hb]
          exact evicting_sound hq hlen hes hever r

theorem offerAll_sound (rs : List Report) (hq : q.sound) : (q.offerAll rs).sound := by
  induction rs generalizing q with
  | nil => exact hq
  | cons r rs ih => exact ih (offer_sound hq r)

end Sys2Proof.Machine
end

section
/-! SUPPORT. Acknowledgements: the range of R178 counted from the oldest entry, and what the removal of the oldest
entries leaves of a sound queue. Settles O41. -/

namespace Sys2Proof.Machine

/-! ### The range of an acknowledgement (R178) -/

/-- R161: the number of the oldest entry, or of the next one to enter an empty queue. -/
def ReportQueue.first (q : ReportQueue) : Byte := q.nextSeq - BitVec.ofNat 8 q.entries.length

/-- R159: how many entries were ever sent. -/
def ReportQueue.sentOnce (q : ReportQueue) : Nat := q.entries.countP fun e => e.everSent

/-- R159: behind an entry that was never sent none was. -/
theorem countP_everSent_of_head {e : QueueEntry} {es : List QueueEntry} (hruns : (e :: es).Pairwise sentBefore)
    (he : e.everSent = false) : (e :: es).countP (fun x => x.everSent) = 0 := by
  obtain ⟨hhead, -⟩ := List.pairwise_cons.mp hruns
  refine List.countP_eq_zero.mpr (List.forall_mem_cons.mpr ⟨by simp [he], fun x hx hever => ?_⟩)
  obtain ⟨-, hearlier⟩ := hhead x hx
  exact absurd (hearlier hever) (by simp [he])

/-- R159: the number of the oldest entry never sent, or the next one, lies behind those ever sent. -/
theorem find?_never_sent {b : Byte} {es : List QueueEntry} (hseq : countsFrom b (es.map (·.seq)))
    (hruns : es.Pairwise sentBefore) :
    ((es.find? fun e => !e.everSent).map (·.seq)).getD (b + BitVec.ofNat 8 es.length) =
      b + BitVec.ofNat 8 (es.countP fun e => e.everSent) := by
  induction es generalizing b with
  | nil => rfl
  | cons e es ih =>
    cases he : e.everSent with
    | false =>
      obtain ⟨hnumber, -⟩ := hseq
      rw [countP_everSent_of_head hruns he]
      simp [he, hnumber]
    | true =>
      obtain ⟨-, hrest⟩ := hseq
      obtain ⟨-, hruns⟩ := List.pairwise_cons.mp hruns
      have hnext : ∀ n, b + BitVec.ofNat 8 (n + 1) = b + 1 + BitVec.ofNat 8 n := fun n => by
        rw [BitVec.add_assoc, BitVec.add_comm 1, BitVec.ofNat_add]
        rfl
      have hcount : (e :: es).countP (fun x => x.everSent) = es.countP (fun x => x.everSent) + 1 :=
        List.countP_cons_of_pos he
      rw [hcount, hnext, List.length_cons, hnext, ← ih hrest hruns, List.find?_cons_of_neg (by simp [he])]

variable {q : ReportQueue}

theorem ackHigh_eq (hq : q.sound) : q.ackHigh = q.first + BitVec.ofNat 8 q.sentOnce := by
  obtain ⟨⟨-, hseq, hruns, -⟩, -⟩ := (queue_sound_iff q).mp hq
  have hfind := find?_never_sent hseq hruns
  rw [BitVec.sub_add_cancel] at hfind
  refine Eq.trans ?_ hfind
  unfold ReportQueue.ackHigh
  cases q.entries.find? (fun e => !e.everSent) <;> rfl

theorem ackLow_eq (hq : q.sound) : q.ackLow = q.first := by
  have hhigh := ackHigh_eq hq
  obtain ⟨⟨-, hseq, hruns, -⟩, -⟩ := (queue_sound_iff q).mp hq
  rw [ReportQueue.first, ReportQueue.sentOnce] at hhigh
  unfold ReportQueue.ackLow ReportQueue.first
  cases hes : q.entries with
  | nil =>
    rw [hes] at hhigh
    simpa using hhigh
  | cons e es =>
    rw [hes] at hhigh hseq hruns
    obtain ⟨hnumber, -⟩ := hseq
    cases he : e.everSent with
    | true => simpa [he] using hnumber
    | false =>
      have hnone := countP_everSent_of_head hruns he
      have hfind : (e :: es).find? (fun x => x.everSent) = none := by
        simpa [List.countP_eq_zero] using hnone
      rw [hfind]
      simpa [hnone] using hhigh

theorem sentOnce_le (hq : q.sound) : q.sentOnce ≤ 4 ∧ q.sentOnce ≤ q.entries.length := by
  obtain ⟨⟨-, -, -, -, hever⟩, -⟩ := (queue_sound_iff q).mp hq
  exact ⟨hever, List.countP_le_length⟩

/-- R178: an acknowledgement in range, counted from the oldest entry, is within those ever sent. -/
theorem ackInRange_iff (hq : q.sound) (a : Byte) : q.ackInRange a = true ↔ (a - q.first).toNat ≤ q.sentOnce := by
  have hspan : (q.first + BitVec.ofNat 8 q.sentOnce - q.first).toNat = q.sentOnce := by
    obtain ⟨hever, -⟩ := sentOnce_le hq
    rw [BitVec.add_comm, BitVec.add_sub_cancel, BitVec.toNat_ofNat]
    omega
  unfold ReportQueue.ackInRange
  rw [ackLow_eq hq, ackHigh_eq hq, hspan, decide_eq_true_iff]

/-! ### The oldest entries removed (R164, R166, R169) -/

/-- R166, R169: the queue without its `k` oldest entries, which are acknowledged. -/
def ReportQueue.acked (q : ReportQueue) (k : Nat) : ReportQueue :=
  { q with
    entries := q.entries.drop k, acknowledged := q.acknowledged + BitVec.ofNat 32 k,
    alert := decide (k < q.entries.length) }

/-- R164: a REPORTS_LOST with the count of the lost reports, after which none is left to report. -/
def ReportQueue.lossTold (q : ReportQueue) (n : Nat) : ReportQueue :=
  { q.offer (.reportsLost n) with lostPending := 0 }

theorem offer_reportsLost (hlen : q.entries.length < 48) (n : Nat) :
    q.offer (.reportsLost n) = { q with generated := q.generated + 1 }.enter (.reportsLost n) := by
  rw [ReportQueue.offer, if_pos (generates_of_critical rfl), generate_of_room hlen]

/-- R164, R166: with reports lost the queue was full, so that places became free in it. -/
theorem removeOldest_eq (hq : q.sound) {k : Nat} (hk : 0 < k) (hle : k ≤ q.entries.length) :
    q.removeOldest k = if 0 < q.lostPending then (q.acked k).lossTold q.lostPending else q.acked k := by
  obtain ⟨-, hfull, -, -, -, halert⟩ := (queue_sound_iff q).mp hq
  have hne : q.entries ≠ [] := List.ne_nil_of_length_pos (hk.trans_le hle)
  have hempty : (q.alert && !((q.entries.drop k).isEmpty && !q.entries.isEmpty)) =
      decide (k < q.entries.length) := by
    rw [halert.mpr hne, List.isEmpty_eq_false_iff.mpr hne]
    by_cases h : k < q.entries.length
    · simp [h]
    · simp [h, Nat.le_of_not_lt h]
  have hremoved : q.entries.length - (q.entries.drop k).length = k := by rw [List.length_drop]; omega
  have hcond : (decide (q.entries.length ≥ Config.reportDepth) &&
      decide ((q.entries.drop k).length < q.entries.length) && decide (0 < q.lostPending)) =
      decide (0 < q.lostPending) := by
    by_cases h : 0 < q.lostPending
    · have hlen : q.entries.length ≥ Config.reportDepth := (hfull h).ge
      simp [h, hlen, hk, hk.trans_le hle]
    · simp [h]
  unfold ReportQueue.removeOldest
  simp only [hempty, hremoved, hcond, decide_eq_true_eq]
  split <;> rfl

theorem entriesSound.drop {n : Byte} {es : List QueueEntry} (h : entriesSound n es) {k : Nat} (hk : k ≤ es.length) :
    entriesSound n (es.drop k) := by
  obtain ⟨hlen, hseq, hruns, hsent, hever⟩ := h
  have hsub := List.drop_sublist k es
  refine ⟨hsub.length_le.trans hlen, ?_, hruns.sublist hsub, fun e he => hsent e (hsub.mem he),
    hsub.countP_le.trans hever⟩
  have hfirst : n - BitVec.ofNat 8 (es.length - k) = n - BitVec.ofNat 8 es.length + BitVec.ofNat 8 k := by
    have hsplit : BitVec.ofNat 8 es.length = BitVec.ofNat 8 (es.length - k) + BitVec.ofNat 8 k := by
      rw [← BitVec.ofNat_add, Nat.sub_add_cancel hk]
    rw [hsplit]
    bv_omega
  rw [← List.take_append_drop k es, List.map_append, countsFrom_append, List.length_map, List.length_take,
    Nat.min_eq_left hk, List.take_append_drop] at hseq
  obtain ⟨-, hrest⟩ := hseq
  rw [List.length_drop, hfirst]
  exact hrest

theorem acked_sound (hq : q.sound) {k : Nat} (hk : k ≤ q.entries.length) (hlost : q.lostPending = 0) :
    (q.acked k).sound := by
  obtain ⟨hentries, -, hpend, htotal, hbalance, -⟩ := (queue_sound_iff q).mp hq
  refine (queue_sound_iff _).mpr ⟨hentries.drop hk, by simp [ReportQueue.acked, hlost], hpend, htotal, ?_, ?_⟩
  · have hsplit : BitVec.ofNat 32 q.entries.length =
        BitVec.ofNat 32 k + BitVec.ofNat 32 (q.entries.length - k) := by
      rw [← BitVec.ofNat_add, Nat.add_sub_cancel' hk]
    simp only [ReportQueue.acked, List.length_drop, hbalance, hsplit, BitVec.add_assoc]
  · simp [ReportQueue.acked]

/-- R164: REPORTS_LOST enters, since places became free. -/
theorem lossTold_sound (hq : { q with lostPending := 0 }.sound) (hlen : q.entries.length < 48) (n : Nat) :
    (q.lossTold n).sound := by
  have hswap : q.lossTold n = { q with lostPending := 0 }.offer (.reportsLost n) := by
    rw [ReportQueue.lossTold, offer_reportsLost hlen, offer_reportsLost (q := { q with lostPending := 0 }) hlen]
    rfl
  rw [hswap]
  exact offer_sound hq _

theorem removeOldest_sound (hq : q.sound) {k : Nat} (hk : 0 < k) (hle : k ≤ q.entries.length) :
    (q.removeOldest k).sound := by
  rw [removeOldest_eq hq hk hle]
  split
  · obtain ⟨hentries, -, hpend, htotal, hbalance, halert⟩ := (queue_sound_iff q).mp hq
    obtain ⟨hdepth, -⟩ := id hentries
    have hnone : { q with lostPending := 0 }.sound :=
      (queue_sound_iff _).mpr ⟨hentries, nofun, Nat.zero_le _, htotal, hbalance, halert⟩
    have hlen : (q.entries.drop k).length < 48 := by rw [List.length_drop]; omega
    exact lossTold_sound (acked_sound hnone hle rfl) hlen _
  · next h => exact acked_sound hq hle (Nat.eq_zero_of_not_pos h)

/-! ### The acknowledgement of a frame (R178, R184) -/

/-- REPORTS_LOST enters unsent, so that it leaves the retransmit timer's question as it is. -/
theorem sentCount_lossTold (hlen : q.entries.length < 48) (n : Nat) : (q.lossTold n).sentCount = q.sentCount := by
  rw [ReportQueue.lossTold, offer_reportsLost hlen]
  simp [ReportQueue.sentCount, ReportQueue.enter]

theorem sentCount_pos_iff (q : ReportQueue) :
    0 < q.sentCount ↔ q.entries.any (fun e => e.sent) = true := by
  rw [ReportQueue.sentCount, List.countP_pos_iff, List.any_eq_true]

theorem sentCount_removeOldest (hq : q.sound) {k : Nat} (hk : 0 < k) (hle : k ≤ q.entries.length) :
    (q.removeOldest k).sentCount = (q.acked k).sentCount := by
  obtain ⟨⟨hdepth, -⟩, -⟩ := (queue_sound_iff q).mp hq
  rw [removeOldest_eq hq hk hle]
  split
  · exact sentCount_lossTold (by simp only [ReportQueue.acked, List.length_drop]; omega) _
  · rfl

theorem ackAdvances_eq (s : State) : ackAdvances s = { s with link := { s.link with
    retransmitAt := if s.reports.entries.any (fun e => e.sent) then some (s.now + s.link.interval * 100)
      else none } } := by
  simp only [ackAdvances, sentCount_pos_iff]
  split <;> rfl

variable {s : State} {a : Byte}

theorem applyAck_of_oldest (hq : s.reports.sound) (h : (a - s.reports.first).toNat = 0) : applyAck a s = s := by
  have hin : s.reports.ackInRange a = true := (ackInRange_iff hq a).mpr (by omega)
  have hcount : s.reports.ackCount a = 0 := by rw [ReportQueue.ackCount, ackLow_eq hq, h]
  rw [applyAck, if_pos hin, hcount]
  rfl

theorem applyAck_of_ever_sent (hq : s.reports.sound) (h0 : 0 < (a - s.reports.first).toNat)
    (h : (a - s.reports.first).toNat ≤ s.reports.sentOnce) : applyAck a s =
      txChoose (ackAdvances { s with reports := s.reports.removeOldest (a - s.reports.first).toNat }) := by
  have hin : s.reports.ackInRange a = true := (ackInRange_iff hq a).mpr h
  have hcount : s.reports.ackCount a = (a - s.reports.first).toNat := by rw [ReportQueue.ackCount, ackLow_eq hq]
  rw [applyAck, if_pos hin, hcount]
  exact if_neg h0.ne'

theorem applyAck_of_beyond (hq : s.reports.sound) (h : s.reports.sentOnce < (a - s.reports.first).toNat) :
    applyAck a s = s.count fun c => { c with ackRange := bump c.ackRange } := by
  have hout : ¬ s.reports.ackInRange a = true := mt (ackInRange_iff hq a).mp (Nat.not_le.mpr h)
  rw [applyAck, if_neg hout]

/-- Settles O41: an acknowledgement of the oldest entry's number, one within those ever sent, and one beyond them. -/
theorem acknowledgementRemovesTheOldestEntries : Obligations.AcknowledgementRemovesTheOldestEntries := by
  intro a s hq q k sentOnce rest
  refine ⟨applyAck_of_oldest hq, fun h0 hk => ?_, applyAck_of_beyond hq⟩
  have hle : k ≤ q.entries.length := hk.trans (sentOnce_le hq).2
  have hsent : (q.removeOldest k).entries.any (fun e => e.sent) = (q.entries.drop k).any fun e => e.sent := by
    rw [Bool.eq_iff_iff, ← sentCount_pos_iff, sentCount_removeOldest hq h0 hle, sentCount_pos_iff]
    rfl
  rw [applyAck_of_ever_sent hq h0 hk, ackAdvances_eq]
  refine congrArg txChoose ?_
  simp only [State.mk.injEq, Link.mk.injEq, true_and, and_true]
  exact ⟨removeOldest_eq hq h0 hle, by rw [← hsent]; rfl⟩

end Sys2Proof.Machine
end

section
/-! SUPPORT. The transmitter: the report that it takes, the end of a frame, the retransmit timer and LINK_SYNC.
Settles O43, O42 and O49. -/

namespace Sys2Proof.Machine

/-! ### The oldest unsent report (R165) -/

/-- R165: the entry on TXD. -/
def QueueEntry.onLine (e : QueueEntry) : QueueEntry := { e with sent := true, everSent := true }

theorem takeOldestUnsent_of_all_sent {es : List QueueEntry} (h : ∀ e ∈ es, e.sent = true) :
    takeOldestUnsent es = none := by
  induction es with
  | nil => rfl
  | cons e es ih =>
    obtain ⟨he, hes⟩ := List.forall_mem_cons.mp h
    rw [takeOldestUnsent, if_pos he, ih hes]

theorem takeOldestUnsent_of_oldest {a b : List QueueEntry} {e : QueueEntry} (ha : ∀ x ∈ a, x.sent = true)
    (he : e.sent = false) : takeOldestUnsent (a ++ e :: b) = some (e, a ++ e.onLine :: b) := by
  induction a with
  | nil =>
    rw [List.nil_append, takeOldestUnsent, if_neg (by simp [he])]
    rfl
  | cons x a ih =>
    obtain ⟨hx, ha⟩ := List.forall_mem_cons.mp ha
    rw [List.cons_append, takeOldestUnsent, if_pos hx, ih ha]
    rfl

/-- Every entry is sent, or there is an oldest unsent one. -/
theorem unsent_cases (es : List QueueEntry) : (∀ e ∈ es, e.sent = true) ∨
    ∃ a e b, es = a ++ e :: b ∧ (∀ x ∈ a, x.sent = true) ∧ e.sent = false := by
  induction es with
  | nil => exact .inl nofun
  | cons x es ih =>
    cases hx : x.sent with
    | false => exact .inr ⟨[], x, es, rfl, nofun, hx⟩
    | true =>
      rcases ih with hall | ⟨a, e, b, rfl, ha, he⟩
      · exact .inl (List.forall_mem_cons.mpr ⟨hx, hall⟩)
      · exact .inr ⟨x :: a, e, b, rfl, List.forall_mem_cons.mpr ⟨hx, ha⟩, he⟩

variable {q : ReportQueue}

theorem takeReport_of_oldest {a b : List QueueEntry} {e : QueueEntry} (hw : q.sentCount < 4)
    (hes : q.entries = a ++ e :: b) (ha : ∀ x ∈ a, x.sent = true) (he : e.sent = false) :
    q.takeReport = some (e, { q with entries := a ++ e.onLine :: b }) := by
  refine (if_pos hw).trans ?_
  rw [hes, takeOldestUnsent_of_oldest ha he]

theorem takeReport_of_none (h : 4 ≤ q.sentCount ∨ ∀ e ∈ q.entries, e.sent = true) : q.takeReport = none := by
  unfold ReportQueue.takeReport
  split
  · next hw =>
    rw [takeOldestUnsent_of_all_sent (h.resolve_left (Nat.not_le.mpr hw))]
  · rfl

/-- R165: the transmitter takes no report, or the oldest unsent one within the window. -/
theorem takeReport_cases (q : ReportQueue) : q.takeReport = none ∨
    ∃ a e b, q.entries = a ++ e :: b ∧ (∀ x ∈ a, x.sent = true) ∧ e.sent = false ∧ q.sentCount < 4 ∧
      q.takeReport = some (e, { q with entries := a ++ e.onLine :: b }) := by
  rcases Nat.lt_or_ge q.sentCount 4 with hw | hw
  · rcases unsent_cases q.entries with hall | ⟨a, e, b, hes, ha, he⟩
    · exact .inl (takeReport_of_none (.inr hall))
    · exact .inr ⟨a, e, b, hes, ha, he, hw, takeReport_of_oldest hw hes ha he⟩
  · exact .inl (takeReport_of_none (.inl hw))

/-! ### The transmitter's choice (R182) -/

variable {s : State}

theorem txChoose_of_reply {r : Reply} (hi : s.link.tx = .idle) (hp : s.link.replyPending = true)
    (hr : s.link.stored = some r) : txChoose s = beginReply r s := by
  unfold txChoose
  simp only [hi, hp, hr, if_true]

theorem txChoose_of_not_pending (hi : s.link.tx = .idle) (hp : s.link.replyPending = false) :
    txChoose s = chooseReport s := by
  unfold txChoose
  simp only [hi, hp, Bool.false_eq_true, if_false]

theorem chooseReport_of_none (h : s.reports.takeReport = none) : chooseReport s = s := by
  rw [chooseReport, h]

theorem chooseReport_of_some {e : QueueEntry} {p : ReportQueue} (h : s.reports.takeReport = some (e, p)) :
    chooseReport s = beginReport e p s := by
  rw [chooseReport, h]

/-- Settles O43: the choice of R182 in its cases, and the tables of types, payloads and codes, which are the model's
own by definition. -/
theorem transmitterTakesTheReplyThenTheOldestReport : Obligations.TransmitterTakesTheReplyThenTheOldestReport := by
  refine ⟨?_, ?_, ?_⟩
  · intro s sent
    refine ⟨txChoose_busy s, fun r hi hp hr => txChoose_of_reply hi hp hr, fun a e b hi hp hw hes ha he => ?_,
      fun hp hnone => ?_⟩
    · rw [txChoose_of_not_pending hi hp, chooseReport_of_some (takeReport_of_oldest hw hes ha he)]
      rfl
    · by_cases hi : s.link.tx = .idle
      · rw [txChoose_of_not_pending hi hp, chooseReport_of_none (takeReport_of_none hnone)]
      · exact txChoose_busy s hi
  · intro carries le2 byte
    refine ⟨fun _ _ => ⟨rfl, rfl⟩, fun _ => ⟨rfl, rfl⟩, fun _ _ => ⟨rfl, rfl⟩, fun _ _ _ => ⟨rfl, rfl⟩,
      fun _ _ => ⟨rfl, rfl⟩, fun _ => ⟨rfl, rfl⟩, fun _ _ _ => ⟨rfl, rfl⟩, fun _ _ _ => ⟨rfl, rfl⟩,
      fun _ _ _ => ⟨rfl, rfl⟩, fun _ _ _ _ _ => ⟨rfl, rfl⟩, fun f zs => ⟨rfl, ?_⟩, fun _ _ _ => ⟨rfl, rfl⟩,
      fun _ _ => ⟨rfl, rfl⟩, fun _ _ _ => ⟨rfl, rfl⟩, ⟨rfl, rfl⟩, fun _ => ⟨rfl, rfl⟩, fun _ => ⟨rfl, rfl⟩,
      fun _ => ⟨rfl, rfl⟩, fun _ _ => ⟨rfl, rfl⟩, fun _ _ _ => ⟨rfl, rfl⟩, fun _ _ _ => ⟨rfl, rfl⟩⟩
    simp only [Report.payload, List.append_assoc]
    rfl
  · intro numbered
    refine ⟨rfl, rfl, rfl, rfl, rfl, rfl, rfl, rfl, rfl, rfl, rfl, rfl, fun _ => ⟨rfl, rfl⟩, fun o ho => ?_, rfl, rfl,
      fun _ => rfl⟩
    cases o with
    | halting why => exact absurd rfl (ho why)
    | queued | planned | active => rfl

/-! ### The end of a frame and the retransmit timer (R182, R184, R185) -/

theorem frameEnds_of_idle (h : s.link.tx = .idle) : frameEnds s = s := by
  unfold frameEnds
  rw [h]

theorem frameEnds_of_reply {f : List Byte} (h : s.link.tx = .reply f) :
    frameEnds s = txChoose { s with link := { s.link with tx := .idle } } := by
  unfold frameEnds
  rw [h]

theorem frameEnds_of_report {f : List Byte} (h : s.link.tx = .report f) : frameEnds s = txChoose { s with
    link := { s.link with
      tx := .idle,
      retransmitAt :=
        if s.link.retransmitAt = none ∧ s.reports.entries.any (fun e => e.sent) = true then
          some (s.now + s.link.interval * 100)
        else s.link.retransmitAt } } := by
  have hcond : (s.link.retransmitAt.isNone && decide (0 < s.reports.sentCount)) = true ↔
      s.link.retransmitAt = none ∧ s.reports.entries.any (fun e => e.sent) = true := by
    rw [Bool.and_eq_true, Option.isNone_iff_eq_none, decide_eq_true_iff, sentCount_pos_iff]
  unfold frameEnds
  rw [h]
  simp only [hcond]
  split <;> rfl

theorem retransmitExpiry_of_running {e : Nat} (h : s.link.retransmitAt = some e) : retransmitExpiry s =
    txChoose { s with
      now := max s.now e, reports := s.reports.returnSent,
      link := { s.link with
        retransmitAt := none,
        counters := { s.link.counters with retransmit := min 65535 (s.link.counters.retransmit + 1) } } } := by
  unfold retransmitExpiry
  rw [h]
  rfl

/-- Settles O42: TX_FRAME_END by what is on TXD, and the expiry of a running timer. -/
theorem frameEndStartsTheRetransmitTimerAndExpiryReturnsReports :
    Obligations.FrameEndStartsTheRetransmitTimerAndExpiryReturnsReports :=
  ⟨fun time s => ⟨
      fun _ h => congrArg Host.Outcome.next (frameEnds_of_report (s := s.atTime time) h),
      fun _ h => congrArg Host.Outcome.next (frameEnds_of_reply (s := s.atTime time) h),
      fun h => congrArg Host.Outcome.next (frameEnds_of_idle (s := s.atTime time) h)⟩,
    fun _ _ h => congrArg Host.Outcome.next (retransmitExpiry_of_running h)⟩

/-! ### LINK_SYNC (R173, R186) -/

/-- Settles O49: LINK_SYNC is executed whatever its number, and its answer is the reply. -/
theorem linkSyncEmptiesTheReportQueue : Obligations.LinkSyncEmptiesTheReportQueue := by
  intro hd s h s1 n
  have hserve : exec (.linkSync hd) s = .next (serve hd .linkSync s) := rfl
  rw [hserve, serve_linkSync s hd h, replying_eq (code := .ok) _ hd _ _ nofun]
  rfl

end Sys2Proof.Machine
end

section
/-! SUPPORT. What the commands do to the report queue: the blocks of the power path submit reports and no more, and the
queue's own operations keep it sound. Settles O13. -/

namespace Sys2Proof.Machine

/-! ### Operations that submit reports and no more (R160) -/

/-- Against `s`, the report queue of `t` has been given reports, and nothing else was done to it. -/
def State.reportedSince (t s : State) : Prop := ∃ rs, t.reports = s.reports.offerAll rs

theorem reportedSince_of_eq {t s : State} (h : t.reports = s.reports) : t.reportedSince s := ⟨[], h⟩

theorem reportedSince_refl (s : State) : s.reportedSince s := ⟨[], rfl⟩

theorem State.reportedSince.trans {u t s : State} (h₂ : u.reportedSince t) (h₁ : t.reportedSince s) :
    u.reportedSince s := by
  obtain ⟨rs₁, h₁⟩ := h₁
  obtain ⟨rs₂, h₂⟩ := h₂
  exact ⟨rs₁ ++ rs₂, by rw [h₂, h₁, offerAll_append]⟩

theorem State.reportedSince.sound {t s : State} (h : t.reportedSince s) (hs : s.reports.sound) : t.reports.sound := by
  obtain ⟨rs, h⟩ := h
  rw [h]
  exact offerAll_sound rs hs

theorem reportedSince_submit (r : Report) {t s : State} (h : t.reports = s.reports) :
    (submit r t).reportedSince s := ⟨[r], by rw [submit_reports, h]; rfl⟩

theorem reportedSince_forZones {f : ZoneId → State → State} (h : ∀ z s, (f z s).reportedSince s) (zs : List ZoneId)
    (s : State) : (forZones zs f s).reportedSince s :=
  forZones_induction (State.reportedSince · s) (fun z u hu => (h z u).trans hu) zs s (reportedSince_refl s)

theorem reportedSince_forGroups {f : GroupId → State → State} (h : ∀ g s, (f g s).reportedSince s)
    (gs : List GroupId) (s : State) : (forGroups gs f s).reportedSince s :=
  forGroups_induction (State.reportedSince · s) (fun g u hu => (h g u).trans hu) gs s (reportedSince_refl s)

/-! ### Withdrawals, tests, trips and welds -/

theorem reportedSince_takenOut (s : State) (z : ZoneId) (st : ZoneState) (r : HaltReason) :
    (s.takenOut z st r).reportedSince s := ⟨_, rfl⟩

theorem reportedSince_withdrawGroup (g : GroupId) (r : HaltReason) (s : State) :
    (withdrawGroup g r s).reportedSince s :=
  reportedSince_forZones (fun z u => ⟨_, withdrawZone_reports r z u⟩) _ s

theorem reportedSince_verifyGroup (g : GroupId) (s : State) : (verifyGroup g s).reportedSince s := by
  rw [verifyGroup_eq]
  exact reportedSince_submit _ rfl

theorem reportedSince_testGroup (g : GroupId) (s : State) : (testGroup g s).reportedSince s := by
  unfold testGroup
  split
  · exact reportedSince_verifyGroup g s
  · exact reportedSince_refl s

theorem reportedSince_testGroups (s : State) : (testGroups s).reportedSince s :=
  reportedSince_forGroups reportedSince_testGroup _ s

theorem reportedSince_trip (cause : TripCause) (named : GroupId → Bool) (ls : List LockedZone) (s : State) :
    (trip cause named ls s).1.reportedSince s := by
  have after : ∀ m u, (afterTrip m u).reportedSince u := fun m u =>
    (reportedSince_forGroups reportedSince_testGroup _ _).trans
      (reportedSince_forGroups (fun g v => reportedSince_withdrawGroup g .groupTrip v) _ u)
  unfold trip
  dsimp only
  split
  · exact reportedSince_refl s
  · exact (after _ _).trans (reportedSince_submit _ (by simp))

theorem reportedSince_stuckOnTrip (z : ZoneId) (s : State) : (stuckOnTrip z s).1.reportedSince s := by
  unfold stuckOnTrip
  dsimp only
  split
  · split
    · exact reportedSince_refl s
    · exact reportedSince_of_eq rfl
  · exact reportedSince_trip _ _ _ s

theorem reportedSince_weld (g : GroupId) (cause : WeldCause) (s : State) : (weld g cause s).reportedSince s :=
  (reportedSince_trip _ _ _ _).trans (reportedSince_submit _ (by simp))

/-! ### The point of a half-cycle -/

theorem reportedSince_openLoadLatch (z : ZoneId) (s : State) : (openLoadLatch z s).reportedSince s := by
  have latch : (submit (.zoneFaulted z) (s.takenOut z .faulted .zoneFault)).reportedSince s :=
    (reportedSince_submit _ rfl).trans (reportedSince_takenOut s z _ _)
  cases h : (s.zone z).state with
  | idle => rwa [openLoadLatch_serving (.inl h)]
  | demand => rwa [openLoadLatch_serving (.inr (.inl h))]
  | dosing => rwa [openLoadLatch_serving (.inr (.inr h))]
  | disabled =>
    rw [openLoadLatch_disabled h]
    exact reportedSince_of_eq rfl
  | faulted =>
    rw [openLoadLatch_latched (.inl h)]
    exact reportedSince_refl s
  | locked =>
    rw [openLoadLatch_latched (.inr h)]
    exact reportedSince_refl s

theorem reportedSince_stuckOnLatch (z : ZoneId) (s : State) : (stuckOnLatch z s).reportedSince s := by
  by_cases h : (s.zone z).state = .locked
  · rw [stuckOnLatch_locked h]
    exact reportedSince_refl s
  · rw [stuckOnLatch_eq h]
    exact (reportedSince_submit _ rfl).trans
      ((reportedSince_stuckOnTrip z _).trans (reportedSince_takenOut s z _ _))

theorem reportedSince_openStrike (z : ZoneId) (s : State) : (openStrike z s).reportedSince s := by
  have raised : (s.openRaised z).reportedSince s := ⟨_, rfl⟩
  rw [openStrike_eq]
  split
  · split
    · exact (reportedSince_openLoadLatch z _).trans raised
    · exact raised
  · exact reportedSince_refl s

theorem reportedSince_stuckStrike (z : ZoneId) (s : State) : (stuckStrike z s).reportedSince s := by
  have raised : (s.stuckRaised z).reportedSince s := ⟨_, rfl⟩
  rw [stuckStrike_eq]
  split
  · split
    · exact (reportedSince_stuckOnLatch z _).trans raised
    · exact raised
  · exact reportedSince_refl s

theorem reportedSince_applyCheck (z : ZoneId) (c : CheckResult) (s : State) : (applyCheck z c s).reportedSince s := by
  unfold applyCheck
  split
  · exact reportedSince_refl s
  · split
    · exact (reportedSince_openStrike z _).trans (reportedSince_of_eq rfl)
    · exact reportedSince_of_eq rfl
  · split
    · exact (reportedSince_stuckStrike z _).trans (reportedSince_of_eq rfl)
    · exact reportedSince_of_eq rfl

theorem reportedSince_midPoint (cs : ZoneSet) (first : Bool) (s : State) : (midPoint cs first s).reportedSince s := by
  have checked : ∀ u, (conductionChecks cs u).reportedSince u := fun u =>
    reportedSince_forZones (fun z v => reportedSince_applyCheck z (u.check cs z) v) _ u
  have sampled : (s.sampled cs).reportedSince s := reportedSince_of_eq rfl
  rw [midPoint_eq]
  split
  · exact (checked _).trans ((reportedSince_testGroups _).trans sampled)
  · exact (reportedSince_testGroups _).trans ((checked _).trans sampled)

/-! ### The takers of a crossing, and the loss -/

theorem reportedSince_checkSupply (r : DriveRecord) (s : State) : (checkSupply r s).reportedSince s := by
  have checked : (s.checkedSupply r).reportedSince s := ⟨_, rfl⟩
  rw [checkSupply_eq]
  split
  · exact (reportedSince_trip _ _ _ _).trans checked
  · exact checked

theorem reportedSince_supervisionAtCrossing (c : Crossing) (s : State) :
    (supervisionAtCrossing c s).reportedSince s := by
  obtain ⟨u, hu, he⟩ := exists_supervisionAtCrossing c s
  have checked : u.reportedSince s := by
    rcases hu with rfl | ⟨r, rfl⟩
    · exact reportedSince_refl u
    · exact reportedSince_checkSupply r s
  have ended : ∀ b, (u.endedAt b).reportedSince u := fun b => by
    cases b with
    | false => exact reportedSince_of_eq rfl
    | true => exact ⟨_, rfl⟩
  rw [he, restartReadings_endedAt]
  exact (ended c.boundary).trans checked

theorem reportedSince_switchAtCrossing (f : BitVec 32) (l h : Nat) (syn : Bool) (s : State) :
    (switchAtCrossing f l h syn s).reportedSince s := ⟨_, congrArg State.reports (switchAtCrossing_eq f l h syn s)⟩

theorem reportedSince_commit (f : BitVec 32) (l : Nat) (d : Bool) (s : State) : (commit f l d s).reportedSince s := by
  unfold commit
  dsimp only
  split
  · exact reportedSince_of_eq rfl
  · exact reportedSince_submit _ rfl

theorem reportedSince_plannerAtBoundary (c : Crossing) (s : State) : (plannerAtBoundary c s).reportedSince s := by
  unfold plannerAtBoundary
  split
  · refine State.reportedSince.trans ?_ (reportedSince_commit c.frame c.len (c.lChanged || c.lock) s)
    exact reportedSince_of_eq (by simp)
  · exact reportedSince_refl s

theorem reportedSince_zonesAtBoundary (l : Nat) (b : Bool) (s : State) : (zonesAtBoundary l b s).reportedSince s :=
  ⟨_, congrArg State.reports (zonesAtBoundary_eq l b s)⟩

theorem reportedSince_takeCrossing (c : Crossing) (k : Taker) (s : State) : (takeCrossing c k s).reportedSince s := by
  unfold takeCrossing
  split
  · exact reportedSince_switchAtCrossing _ _ _ _ s
  · exact reportedSince_supervisionAtCrossing c s
  · exact reportedSince_of_eq (by simp)
  · exact reportedSince_plannerAtBoundary c s
  · split
    · exact reportedSince_zonesAtBoundary _ _ s
    · exact reportedSince_refl s

theorem reportedSince_handOn (order : List Taker) (c : Crossing) (s : State) : (handOn order c s).reportedSince s :=
  handOn_induction (P := (State.reportedSince · s)) (fun k u hu => (reportedSince_takeCrossing c k u).trans hu) order
    (reportedSince_refl s)

theorem reportedSince_loseMains (s : State) : (loseMains s).reportedSince s :=
  ⟨_, congrArg State.reports (loseMains_eq s)⟩

/-! ### Edges and windows -/

theorem reportedSince_crossLocked (order : List Taker) (ref : Nat) (syn : Bool) (s : State) :
    (crossLocked order ref syn s).reportedSince s :=
  (reportedSince_handOn order _ _).trans (reportedSince_of_eq rfl)

theorem reportedSince_lockMains (order : List Taker) (s : State) : (lockMains order s).reportedSince s :=
  (reportedSince_handOn order _ _).trans (reportedSince_submit _ rfl)

theorem reportedSince_expireWindow (order : List Taker) (s : State) : (expireWindow order s).reportedSince s := by
  unfold expireWindow
  split
  · dsimp only
    split
    · exact (reportedSince_loseMains _).trans (reportedSince_of_eq rfl)
    · exact (reportedSince_crossLocked order _ _ _).trans (reportedSince_of_eq rfl)
  · exact reportedSince_refl s

theorem reportedSince_settleWindow (order : List Taker) (t : Nat) (s : State) :
    (settleWindow order t s).reportedSince s := by
  have expire : ∀ u : State, (if u.windowOver t then expireWindow order u else u).reportedSince u := fun u => by
    split
    · exact reportedSince_expireWindow order u
    · exact reportedSince_refl u
  exact (expire _).trans (expire s)

theorem reportedSince_classedEdge (order : List Taker) (ref : Nat) (s : State) :
    (classedEdge order ref s).reportedSince s := by
  have real : ∀ i, (realCrossing order i s).reportedSince s := fun i =>
    (reportedSince_crossLocked order _ _ _).trans (reportedSince_of_eq rfl)
  have search : ∀ i, (searchEdge order i s).reportedSince s := fun i => by
    unfold searchEdge
    dsimp only
    split
    · exact (reportedSince_lockMains order _).trans (reportedSince_of_eq rfl)
    · exact reportedSince_of_eq rfl
  unfold classedEdge
  dsimp only
  split
  · exact reportedSince_of_eq rfl
  · split
    · split
      · exact real _
      · exact search _
    · split
      · exact reportedSince_refl s
      · exact reportedSince_of_eq rfl

theorem reportedSince_edge (order : List Taker) (s : State) : (edge order s).reportedSince s := by
  unfold edge
  split
  · exact reportedSince_of_eq rfl
  · split
    · exact reportedSince_of_eq rfl
    · exact reportedSince_classedEdge order _ s

theorem reportedSince_edgeAt (order : List Taker) (time : Nat) (s : State) : (edgeAt order time s).reportedSince s :=
  (reportedSince_edge order _).trans ((reportedSince_of_eq rfl).trans (reportedSince_settleWindow order _ s))

/-! ### The contactor controller's happenings -/

theorem reportedSince_testOpening (g : GroupId) (s : State) : (testOpening g s).reportedSince s := by
  unfold testOpening
  split
  · exact reportedSince_submit _ rfl
  · exact reportedSince_refl s

theorem reportedSince_auxHandled (g : GroupId) (s : State) : (auxHandled g s).reportedSince s := by
  unfold auxHandled
  split
  · exact reportedSince_of_eq (by simp)
  · exact reportedSince_of_eq (by simp)
  · split
    · exact reportedSince_submit _ rfl
    · exact reportedSince_refl s
  · split
    · exact reportedSince_refl s
    · exact reportedSince_trip _ _ _ s
  · exact reportedSince_testOpening g s
  · exact reportedSince_testGroup g s
  · exact reportedSince_refl s

theorem reportedSince_auxChange (g : GroupId) (s : State) : (auxChange g s).reportedSince s := by
  unfold auxChange
  split
  · exact reportedSince_refl s
  · exact (reportedSince_auxHandled g _).trans (reportedSince_of_eq rfl)

theorem reportedSince_stopChange (s : State) : (stopChange s).reportedSince s := by
  unfold stopChange
  split
  · exact reportedSince_refl s
  · dsimp only
    split
    · exact (reportedSince_trip _ _ _ _).trans (reportedSince_of_eq rfl)
    · exact reportedSince_of_eq rfl

theorem reportedSince_rawChange (line : RawLine) (level : Bool) (s : State) :
    (rawChange line level s).reportedSince s := by
  cases line <;> exact reportedSince_of_eq rfl

theorem reportedSince_closeFailed (g : GroupId) (s : State) : (closeFailed g s).reportedSince s :=
  reportedSince_submit _ rfl

theorem reportedSince_openExpired (g : GroupId) (s : State) : (openExpired g s).reportedSince s := by
  unfold openExpired
  split
  · exact reportedSince_weld g _ s
  · exact reportedSince_refl s

theorem reportedSince_verifyExpired (g : GroupId) (s : State) : (verifyExpired g s).reportedSince s := by
  unfold verifyExpired
  split
  · exact reportedSince_verifyGroup g s
  · exact reportedSince_weld g _ s

/-! ### Requests -/

theorem reportedSince_answerOpenGroup (g : GroupId) (s : State) : (answerOpenGroup g s).state.reportedSince s := by
  have opening : ∀ v, (testOpening g (withdrawGroup g .groupOpened (s.setGroup g v))).reportedSince s := fun v =>
    (reportedSince_testOpening g _).trans ((reportedSince_withdrawGroup g _ _).trans (reportedSince_of_eq rfl))
  unfold answerOpenGroup
  split
  · exact openFromClosed_eq g s ▸ opening _
  · exact openFromClosing_eq g s ▸ opening _
  all_goals exact reportedSince_refl s

theorem reportedSince_answerDisableZone (z : ZoneId) (s : State) : (answerDisableZone z s).state.reportedSince s := by
  unfold answerDisableZone
  split
  · exact reportedSince_refl s
  · exact reportedSince_refl s
  · dsimp only
    rw [leaveService_eq (st := .disabled) (by decide)]
    exact (reportedSince_of_eq rfl).trans (reportedSince_takenOut s z .disabled .zoneDisabled)

/-- R160: no request but LINK_SYNC and SET_SUBSCRIPTION does more to the queue than submit reports. -/
theorem reportedSince_answer (r : Request) (s : State) (hsync : r ≠ .linkSync)
    (hmask : ∀ m, r ≠ .setSubscription m) : (answer r s).state.reportedSince s := by
  cases r with
  | linkSync => exact absurd rfl hsync
  | setSubscription m => exact absurd rfl (hmask m)
  | disableZone z => exact reportedSince_answerDisableZone _ s
  | openGroup g => exact reportedSince_answerOpenGroup _ s
  | tripAll => exact reportedSince_trip _ _ _ s
  | setFrame | configZone | enableZone | setDemand | clearZone | queueOrder | abortOrder =>
    refine reportedSince_of_eq ?_
    simp only [answer, answerSetFrame, answerConfigZone, answerEnableZone, answerSetDemand, State.setDemand,
      answerClearZone, answerQueueOrder, State.appendOrder, State.orderAccepted, answerAbortOrder, abortBehind]
    (repeat' split) <;> simp [State.grant, State.deny, State.grantDemand]
  | closeGroup g =>
    rcases answerCloseGroup_cases (groupNumber g) s with e | ⟨-, e⟩ <;>
      exact reportedSince_of_eq (congrArg State.reports e :)
  | ackTrip g =>
    rcases answerAckTrip_cases (groupNumber g) s with e | ⟨-, e⟩ <;>
      exact reportedSince_of_eq (congrArg State.reports e :)
  | readTripRecord n => exact reportedSince_of_eq (congrArg State.reports (answerReadTripRecord_state n s) :)
  | releaseTripRecord n =>
    obtain ⟨t, e⟩ := answerReleaseTripRecord_state n s
    exact reportedSince_of_eq (congrArg State.reports e :)
  | clearTally => exact reportedSince_of_eq (by simp [answer, answerClearTally, State.grant])
  | _ => exact reportedSince_of_eq rfl

/-! ### The queue's own operations (R165 to R167, R173) -/

variable {q : ReportQueue} {s : State}

/-- Other entries in the same number, with no other change, leave the counts and ALERT as they stand. -/
theorem sound_of_entries (hq : q.sound) {es : List QueueEntry} (hes : entriesSound q.nextSeq es)
    (hlen : es.length = q.entries.length) : { q with entries := es }.sound := by
  obtain ⟨-, hfull, hpend, htotal, hbalance, halert⟩ := (queue_sound_iff q).mp hq
  refine (queue_sound_iff _).mpr ⟨hes, fun h => hlen.trans (hfull h), hpend, htotal, ?_, halert.trans ?_⟩
  · dsimp only
    rw [hlen]
    exact hbalance
  · rw [Ne, Ne, ← List.length_eq_zero_iff, ← List.length_eq_zero_iff (l := es), hlen]

namespace entriesSound

variable {n : Byte} {es a b : List QueueEntry} {e : QueueEntry}

/-- R159, R165: the oldest unsent entry is sent, behind fewer than 4. -/
theorem onLine (h : entriesSound n (a ++ e :: b)) (ha : ∀ x ∈ a, x.sent = true)
    (hw : (a ++ e :: b).countP (fun x => x.sent) < 4) : entriesSound n (a ++ e.onLine :: b) := by
  obtain ⟨hlen, hseq, hruns, hsent, hever⟩ := h
  rw [List.pairwise_append, List.pairwise_cons] at hruns
  obtain ⟨hrunsA, ⟨hbehind, hrunsB⟩, hcross⟩ := hruns
  have haever : ∀ x ∈ a, x.everSent = true := fun x hx => hsent x (List.mem_append_left _ hx) (ha x hx)
  refine ⟨by simpa using hlen, by simpa [QueueEntry.onLine] using hseq, ?_, ?_, ?_⟩
  · rw [List.pairwise_append, List.pairwise_cons]
    refine ⟨hrunsA, ⟨fun y _ => ⟨fun _ => rfl, fun _ => rfl⟩, hrunsB⟩, fun x hx y _ => ?_⟩
    exact ⟨fun _ => ha x hx, fun _ => haever x hx⟩
  · intro x hx
    rcases List.mem_append.mp hx with hx | hx
    · exact fun _ => haever x hx
    · rcases List.mem_cons.mp hx with rfl | hx
      · exact fun _ => rfl
      · exact hsent x (List.mem_append_right _ (List.mem_cons_of_mem e hx))
  · cases heever : e.everSent with
    | true => simpa [List.countP_append, List.countP_cons, QueueEntry.onLine, heever] using hever
    | false =>
      have hnone : (e :: b).countP (fun x => x.everSent) = 0 :=
        countP_everSent_of_head (List.pairwise_cons.mpr ⟨hbehind, hrunsB⟩) heever
      have hcountB : b.countP (fun x => x.everSent) = 0 := by simpa [List.countP_cons, heever] using hnone
      have hcountA : a.countP (fun x => x.sent) = a.length := List.countP_eq_length.mpr ha
      have hleA : a.countP (fun x => x.everSent) ≤ a.length := List.countP_le_length
      rw [List.countP_append, hcountA] at hw
      rw [List.countP_append, List.countP_cons_of_pos rfl, hcountB]
      omega

/-- R167: every entry is unsent, in its place and with its number. -/
theorem returned (h : entriesSound n es) : entriesSound n (es.map fun e => { e with sent := false }) := by
  obtain ⟨hlen, hseq, hruns, -, hever⟩ := h
  refine ⟨by simpa using hlen, ?_, ?_, ?_, ?_⟩
  · rw [List.length_map, List.map_map]
    exact hseq
  · exact List.pairwise_map.mpr (hruns.imp fun ⟨_, hearlier⟩ => ⟨nofun, hearlier⟩)
  · intro x hx
    obtain ⟨y, -, rfl⟩ := List.mem_map.mp hx
    exact nofun
  · rw [List.countP_map]
    exact hever

end entriesSound

theorem takeReport_sound (hq : q.sound) {e : QueueEntry} {p : ReportQueue} (h : q.takeReport = some (e, p)) :
    p.sound := by
  rcases takeReport_cases q with hnone | ⟨a, x, b, hes, ha, -, hw, htake⟩
  · rw [hnone] at h
    cases h
  · rw [htake] at h
    cases h
    obtain ⟨hentries, -⟩ := (queue_sound_iff q).mp hq
    rw [ReportQueue.sentCount] at hw
    rw [hes] at hentries hw
    exact sound_of_entries hq (hentries.onLine ha hw) (by simp [hes])

theorem returnSent_sound (hq : q.sound) : q.returnSent.sound := by
  obtain ⟨hentries, -⟩ := (queue_sound_iff q).mp hq
  exact sound_of_entries hq hentries.returned (List.length_map _)

theorem linkSync_sound (q : ReportQueue) : q.linkSync.sound := by
  refine (queue_sound_iff _).mpr ⟨⟨?_, trivial, .nil, nofun, ?_⟩, nofun, ?_, satAdd_le _ _ _, rfl, ?_⟩
  all_goals simp [ReportQueue.linkSync]

/-- R182: a choice of the transmitter takes a report from the queue, or leaves it. -/
theorem txChoose_reports_sound (hq : s.reports.sound) : (txChoose s).reports.sound := by
  have choose : (chooseReport s).reports.sound := by
    unfold chooseReport
    split
    · next e p h => exact takeReport_sound hq h
    · exact hq
  unfold txChoose
  split
  · split
    · split
      · exact hq
      · exact choose
    · exact choose
  · exact hq
  · exact hq

theorem applyAck_reports_sound (a : Byte) (hq : s.reports.sound) : (applyAck a s).reports.sound := by
  rcases Nat.eq_zero_or_pos (a - s.reports.first).toNat with h0 | h0
  · rwa [applyAck_of_oldest hq h0]
  · rcases Nat.lt_or_ge s.reports.sentOnce (a - s.reports.first).toNat with h | h
    · rwa [applyAck_of_beyond hq h]
    · rw [applyAck_of_ever_sent hq h0 h]
      exact txChoose_reports_sound (by simpa using removeOldest_sound hq h0 (h.trans (sentOnce_le hq).2))

/-! ### Request frames and bytes (R176 to R181) -/

theorem answer_reports_sound (r : Request) (hq : s.reports.sound) : (answer r s).state.reports.sound := by
  by_cases hsync : r = .linkSync
  · subst hsync
    exact linkSync_sound _
  · by_cases hmask : ∃ m, r = .setSubscription m
    · obtain ⟨m, rfl⟩ := hmask
      exact hq
    · exact (reportedSince_answer r s hsync fun m e => hmask ⟨m, e⟩).sound hq

theorem execute_reports_sound (num : BitVec 4) (type : Byte) (p : Parsed) (hq : s.reports.sound) :
    (execute num type p s).reports.sound := by
  unfold execute
  split
  · exact hq
  · split
    · exact answer_reports_sound _ hq
    · exact hq

theorem serveFrame_reports_sound (num : BitVec 4) (ack type : Byte) (p : Parsed) (hq : s.reports.sound) :
    (serveFrame num ack type p s).reports.sound := by
  have hack := applyAck_reports_sound (s := s.count fun c => { c with framesReceived := bump c.framesReceived }) ack hq
  unfold serveFrame handleRequest
  refine txChoose_reports_sound ?_
  split
  · exact hack
  · split
    · exact hack
    · exact execute_reports_sound num type p hack

theorem frameComplete_reports_sound (bytes : List Byte) (hq : s.reports.sound) :
    (frameComplete bytes s).reports.sound := by
  unfold frameComplete validFrame
  split
  · split
    · exact serveFrame_reports_sound _ _ _ _ hq
    · exact hq
  · exact hq

theorem receiveByte_reports_sound (b : Byte) (ok : Bool) (hq : s.reports.sound) :
    (receiveByte b ok s).reports.sound := by
  unfold receiveByte goodByte
  dsimp only
  split
  · split
    · split <;> exact hq
    · split <;> exact hq
    · exact hq
    · split
      · exact frameComplete_reports_sound _ hq
      · exact hq
  · split <;> exact hq

theorem gapExpiry_reports (s : State) : (gapExpiry s).reports = s.reports := by
  unfold gapExpiry
  split <;> rfl

theorem byteAt_reports_sound (t : Nat) (b : Byte) (ok : Bool) (hq : s.reports.sound) :
    (byteAt t b ok s).reports.sound := by
  refine receiveByte_reports_sound b ok ?_
  split
  · simpa [gapExpiry_reports] using hq
  · exact hq

theorem frameEnds_reports_sound (hq : s.reports.sound) : (frameEnds s).reports.sound := by
  cases h : s.link.tx with
  | idle => rwa [frameEnds_of_idle h]
  | reply f =>
    rw [frameEnds_of_reply h]
    exact txChoose_reports_sound hq
  | report f =>
    rw [frameEnds_of_report h]
    exact txChoose_reports_sound hq

theorem retransmitExpiry_reports_sound (hq : s.reports.sound) : (retransmitExpiry s).reports.sound := by
  cases h : s.link.retransmitAt with
  | none =>
    unfold retransmitExpiry
    rwa [h]
  | some e =>
    rw [retransmitExpiry_of_running h]
    exact txChoose_reports_sound (returnSent_sound hq)

/-! ### Resets and every command -/

theorem empty_sound : ReportQueue.empty.sound :=
  (queue_sound_iff _).mpr ⟨⟨Nat.zero_le _, trivial, .nil, nofun, Nat.zero_le _⟩, nofun, Nat.zero_le _, Nat.zero_le _,
    rfl, by simp [ReportQueue.empty]⟩

/-- R172: after a reset STARTUP has entered the empty queue. -/
theorem startUp_reports_sound (cause : ResetCause) (hq : s.reports.sound) : (startUp cause s).reports.sound :=
  txChoose_reports_sound (offer_sound hq _)

theorem onExpiry_reports_sound (g : GroupId) (k : TimerKind) {f : State → State}
    (hf : ∀ {u : State}, u.reports.sound → (f u).reports.sound) (hq : s.reports.sound) :
    (onExpiry g k f s).reports.sound := by
  unfold onExpiry
  split
  · exact hf hq
  · exact hq

/-- R159, R164, R168, R169: every command keeps the report queue sound. -/
theorem exec_keeps_reports_sound (i : Instr) {s t : State} (hq : s.reports.sound) (h : exec i s = .next t) :
    t.reports.sound := by
  have chosen : ∀ {v u : State}, v.reportedSince u → u.reports.sound → (txChoose v).reports.sound :=
    fun hv hu => txChoose_reports_sound (hv.sound hu)
  have request : ∀ {hd : Header} {r : Request}, i.requestOf = some (hd, r) → t.reports.sound := by
    intro hd r hreq
    rw [exec_of_requestOf s hreq] at h
    cases h
    exact serveFrame_reports_sound _ _ _ _ hq
  cases i with
  | powerOn | pinReset => cases h; exact startUp_reports_sound _ empty_sound
  | zxEdge time order => cases h; exact chosen (reportedSince_edgeAt order time s) hq
  | windowExpiry order =>
    cases h
    split
    · exact chosen (reportedSince_expireWindow order s) hq
    · exact hq
  | midHalfCyclePoint cs first =>
    cases h
    split
    · split
      · next t _ _ => exact chosen (reportedSince_midPoint cs first (s.atTime t)) hq
      · exact hq
    · exact hq
  | isenseReading v => cases h; exact (reportedSince_of_eq (by simp)).sound hq
  | auxChange g =>
    cases h
    split
    · exact chosen (reportedSince_auxChange g s) hq
    · exact hq
  | stopChange =>
    cases h
    split
    · exact chosen (reportedSince_stopChange s) hq
    · exact hq
  | closeTimerExpiry g => cases h; exact onExpiry_reports_sound g _ (chosen (reportedSince_closeFailed g _)) hq
  | releaseDeadlineExpiry g => cases h; exact onExpiry_reports_sound g _ (fun hu => hu) hq
  | openTimerExpiry g => cases h; exact onExpiry_reports_sound g _ (chosen (reportedSince_openExpired g _)) hq
  | verifyTimerExpiry g => cases h; exact onExpiry_reports_sound g _ (chosen (reportedSince_verifyExpired g _)) hq
  | stuckContactTimerExpiry g => cases h; exact onExpiry_reports_sound g _ (chosen (reportedSince_weld g _ _)) hq
  | rxByte time byte ok => cases h; exact byteAt_reports_sound time byte ok hq
  | byteGapTimeout => cases h; exact (reportedSince_of_eq (gapExpiry_reports s)).sound hq
  | txFrameEnd time => cases h; exact frameEnds_reports_sound (s := s.atTime time) hq
  | retransmitTimerExpiry => cases h; exact retransmitExpiry_reports_sound hq
  | rawInputChange time line level => cases h; exact (reportedSince_rawChange line level (s.atTime time)).sound hq
  | _ => exact request rfl

/-- Settles O13: an idle step changes nothing, and a command is `exec_keeps_reports_sound`. -/
theorem stepKeepsTheReportQueueSound : Obligations.StepKeepsTheReportQueueSound := by
  intro s t hq h
  unfold step at h
  split at h
  · cases h
    exact hq
  · next c cs _ => exact exec_keeps_reports_sound c (s := { s with pending := cs }) hq h

end Sys2Proof.Machine
end

section
/-! SUPPORT. State.reset: it is what POWER_ON leaves, so that each block is as sound in it as a reset leaves it.
Settles O4. -/

namespace Sys2Proof.Machine

/-- R172, R182: a power-on with straps 00 and no raw line active is State.reset. -/
theorem startUp_eq_reset : startUp .powerOn (State.blank 0 { baud1 := false, baud0 := false }
    (Vector.ofFn fun _ => false) false .powerOn []) = State.reset := by
  rw [startUp_blank]
  rfl

/-- What every power-on leaves holds of State.reset, where it speaks of the blocks of the power path. -/
theorem KeptByParts.reset {P : State → Prop} (k : KeptByParts P) : P State.reset :=
  startUp_eq_reset ▸ k.frame (startUp_sameBlocks _ _) (k.power _ _ _ _ _)

theorem reset_reports_sound : State.reset.reports.sound :=
  startUp_eq_reset ▸ startUp_reports_sound _ empty_sound

/-- R174: STARTUP is on TXD, and the retransmit timer stopped until its frame ends. -/
theorem reset_linkSound : State.reset.linkSound :=
  ⟨⟨rfl, rfl⟩, rfl, nofun, by decide, by decide, nofun, nofun, fun _ h => absurd rfl (h startupFrame)⟩

theorem reset_sound : State.reset.sound := by
  obtain ⟨hplan, hdrive⟩ := driveSound_keptByParts.reset
  obtain ⟨hgroups, hstore⟩ := storeSound_keptByParts.reset
  exact ⟨Mtu.sound_reset, zonesSound_keptByParts.reset, hplan, hdrive, scoresFit_keptByParts.reset.sound, hgroups,
    lockedZonesSound_keptByParts.reset, hstore, reset_reports_sound, reset_linkSound⟩

/-- R172: POWER_ON at instant 0 with straps 00, where no raw line is active. -/
theorem powerOn_eq_reset {s : State} (hnow : s.now = 0) (haux : ∀ g, (s.group g).rawAux = false)
    (hstop : s.gcc.rawStop = false) (hpend : s.pending = []) :
    exec (.powerOn 0 { baud1 := false, baud0 := false }) s = .next State.reset := by
  have hpower : applyPower 0 { baud1 := false, baud0 := false } s = State.reset := by
    rw [applyPower, hnow, hstop, hpend]
    simp only [haux]
    exact startUp_eq_reset
  exact congrArg Host.Outcome.next hpower

/-- Settles O4: the state POWER_ON leaves, and its soundness block by block. -/
theorem resetIsTheSoundStateAfterPowerOn : Obligations.ResetIsTheSoundStateAfterPowerOn :=
  ⟨fun _ hnow haux hstop hpend => powerOn_eq_reset hnow haux hstop hpend, reset_sound⟩

end Sys2Proof.Machine
end

section
/-! SUPPORT. The receiver: what a byte does in each of its states, and when the byte gap has run out before it.
Settles O44. -/

namespace Sys2Proof.Machine

variable {s : State} {b : Byte}

/-! ### The byte gap (R176, log entry 4) -/

/-- R176: the receiver's timer, where it runs, has not run out before the instant at which a byte is taken. -/
def State.timely (s : State) (t : Nat) : Prop := ∀ e, s.link.rx.gap = some e → max s.now t ≤ e

theorem timely_of_idle (h : s.link.rx = .idle) (t : Nat) : s.timely t := by
  rw [State.timely, h]
  exact nofun

theorem byteAt_of_timely {t : Nat} (h : s.timely t) (b : Byte) (ok : Bool) :
    byteAt t b ok s = receiveByte b ok (s.atTime t) := by
  have hover : s.gapOver (max s.now t) = false := by
    unfold State.gapOver
    split
    · next e he => exact decide_eq_false (Nat.not_lt.mpr (h e he))
    · rfl
  rw [byteAt, hover]
  rfl

theorem gapExpiry_of_running {e : Nat} (h : s.link.rx.gap = some e) : gapExpiry s = abandonFraming (s.atTime e) := by
  rw [gapExpiry, h]

/-- A byte after the gap finds the frame abandoned. -/
theorem byteAt_of_late {t e : Nat} (hgap : s.link.rx.gap = some e) (h : e < max s.now t) (b : Byte) (ok : Bool) :
    byteAt t b ok s = receiveByte b ok (abandonFraming (s.atTime t)) := by
  have hover : s.gapOver (max s.now t) = true := by
    rw [State.gapOver, hgap]
    exact decide_eq_true h
  have hinstant : max (max s.now e) t = max s.now t := by omega
  have htaken : (abandonFraming (s.atTime e)).atTime t = abandonFraming (s.atTime t) := by
    simp only [abandonFraming, State.atTime, State.setRx, State.count, hinstant]
  rw [byteAt, hover, if_pos rfl, gapExpiry_of_running hgap, htaken]

/-! ### A byte by the receiver's state (R176) -/

theorem receiveByte_good (b : Byte) (s : State) : receiveByte b true s = goodByte b s := rfl

theorem receiveByte_bad_hunting (h : s.link.rx.state = .hunting) (b : Byte) : receiveByte b false s = s := if_pos h

theorem receiveByte_bad (h : s.link.rx.state ≠ .hunting) (b : Byte) :
    receiveByte b false s = abandonFraming s := if_neg h

theorem goodByte_hunting (h : s.link.rx.state = .hunting) (b : Byte) :
    goodByte b s = if b = syncByte then keepByte .header b s else s := by
  simp only [goodByte, h]

theorem goodByte_header (h : s.link.rx.state = .header) (b : Byte) :
    goodByte b s = if within 3 251 b.toNat then keepByte .body b s
      else (s.setRx .idle).count fun c => { c with length := bump c.length } := by
  simp only [goodByte, h]

theorem goodByte_body (h : s.link.rx.state = .body) (b : Byte) : goodByte b s =
    keepByte (if s.link.rx.bytes.length + 1 = s.link.rx.len + 2 then .check else .body) b s := by
  simp only [goodByte, h]

theorem goodByte_check (h : s.link.rx.state = .check) (b : Byte) : goodByte b s =
    if s.link.rx.bytes.length + 1 = s.link.rx.len + 4 then
      frameComplete (s.link.rx.bytes ++ [b]) (s.setRx .idle)
    else keepByte .check b s := by
  simp only [goodByte, h]

/-- R176: a hunting receiver discards what is no SYNC byte with a good stop bit. -/
theorem receiveByte_hunting_other {ok : Bool} (h : s.link.rx.state = .hunting) (hb : ok = false ∨ b ≠ syncByte) :
    receiveByte b ok s = s := by
  cases ok with
  | false => exact receiveByte_bad_hunting h b
  | true => rw [receiveByte_good, goodByte_hunting h, if_neg (hb.resolve_left nofun)]

/-- R176: a SYNC byte starts a frame. -/
theorem receiveByte_hunting_sync (h : s.link.rx.state = .hunting) (hbytes : s.link.rx.bytes = []) :
    receiveByte syncByte true s = s.setRx { state := .header, bytes := [syncByte], gap := some (s.now + 500) } := by
  rw [receiveByte_good, goodByte_hunting h, if_pos rfl, keepByte, hbytes]
  rfl

/-! ### The CRC and CTRL of a complete frame (R176, R177) -/

/-- R176: the CRC is taken over the bytes between SYNC and the last two. -/
theorem crcAgrees_iff {bytes : List Byte} {n : Nat} (h : bytes.length = n + 4) : crcAgrees bytes = true ↔
    leBytes 2 (crc16 ((bytes.drop 1).dropLast.dropLast)).toNat = bytes.drop (n + 2) := by
  have hcore : (bytes.drop 1).dropLast.dropLast = (bytes.drop 1).take (bytes.length - 3) := by
    simp only [List.dropLast_eq_take, List.length_take, List.length_drop, List.take_take]
    congr 1
    omega
  have hlast : bytes.length - 2 = n + 2 := by omega
  rw [crcAgrees, beq_iff_eq, hcore, hlast]

/-- R177: a set bit among CTRL 7 to 4. -/
theorem ctrlHigh_ne_zero {c : Byte} (h : 16 ≤ c.toNat) : c.extractLsb' 4 4 ≠ 0 := by
  intro h0
  have hnat : (c.extractLsb' 4 4).toNat = 0 := by rw [h0]; rfl
  rw [BitVec.extractLsb'_toNat, Nat.shiftRight_eq_div_pow] at hnat
  have hlt := c.isLt
  omega

theorem frameComplete_of_bad_crc {bytes : List Byte} (h : ¬ crcAgrees bytes = true) (s : State) :
    frameComplete bytes s = s.count fun c => { c with crc := bump c.crc } := if_neg h

theorem frameComplete_of_bad_ctrl {bytes : List Byte} (h : crcAgrees bytes = true)
    (hc : 16 ≤ (bytes.getD 2 0).toNat) (s : State) :
    frameComplete bytes s = s.count fun c => { c with control := bump c.control } :=
  (if_pos h).trans (if_neg (ctrlHigh_ne_zero hc))

/-- Settles O44: each discarded byte and each abandoned frame by the receiver's state. -/
theorem receiverAbandonsBadFrames : Obligations.ReceiverAbandonsBadFrames := by
  intro time b ok s
  have taken : ∀ {t : State}, s.timely time → receiveByte b ok (s.atTime time) = t →
      exec (.rxByte time b ok) s = .next t := fun h e =>
    congrArg Host.Outcome.next ((byteAt_of_timely h b ok).trans e)
  have late : ∀ {e : Nat} {t : State}, s.link.rx.gap = some e → e < max s.now time →
      receiveByte b ok (abandonFraming (s.atTime time)) = t → exec (.rxByte time b ok) s = .next t :=
    fun hgap h e => congrArg Host.Outcome.next ((byteAt_of_late hgap h b ok).trans e)
  have complete : ∀ {t : State}, s.timely time → s.link.rx.state = .check → ok = true →
      (s.link.rx.bytes ++ [b]).length = s.link.rx.len + 4 →
      frameComplete (s.link.rx.bytes ++ [b]) ((s.atTime time).setRx .idle) = t →
      exec (.rxByte time b ok) s = .next t := by
    rintro t h hst rfl hlen e
    refine taken h ?_
    rw [List.length_append, List.length_singleton] at hlen
    exact ((goodByte_check (s := s.atTime time) hst b).trans (if_pos hlen)).trans e
  refine ⟨fun hidle hb => ?_, fun hidle hok hb => ?_, fun h hst hok => ?_, fun h hst hok hb => ?_,
    fun h _ hst hok hlen hcrc => ?_, fun h _ hst hok hlen hcrc hctrl => ?_, fun e hgap h => ⟨fun hb => ?_, ?_⟩,
    fun e hgap => ?_⟩
  · exact taken (timely_of_idle hidle time) (receiveByte_hunting_other (congrArg Receiver.state hidle) hb)
  · subst hok hb
    exact taken (timely_of_idle hidle time)
      (receiveByte_hunting_sync (s := s.atTime time) (congrArg Receiver.state hidle) (congrArg Receiver.bytes hidle))
  · subst hok
    exact taken h (receiveByte_bad (s := s.atTime time) hst b)
  · subst hok
    have hrange : ¬ within 3 251 b.toNat = true := by rw [within_iff]; omega
    exact taken h ((goodByte_header (s := s.atTime time) hst b).trans (if_neg hrange))
  · exact complete h hst hok hlen (frameComplete_of_bad_crc (mt (crcAgrees_iff hlen).mp hcrc) _)
  · exact complete h hst hok hlen (frameComplete_of_bad_ctrl ((crcAgrees_iff hlen).mpr hcrc) hctrl _)
  · exact late hgap h (receiveByte_hunting_other rfl hb)
  · rintro rfl rfl
    exact late hgap h (receiveByte_hunting_sync rfl rfl)
  · exact congrArg Host.Outcome.next (gapExpiry_of_running hgap)

end Sys2Proof.Machine
end

section
/-! SUPPORT. A valid frame byte by byte: the receiver amid a frame, the frame it then serves, and the requests that
read back from their bytes. Settles O45 and O46. -/

namespace Sys2Proof.Machine

/-! ### The receiver amid a frame (R176) -/

/-- R176: the receiver that holds the first bytes of a frame, the last of them taken at an instant. -/
def Receiver.amid (bytes : List Byte) (now : Nat) : Receiver where
  state := if bytes.length < 2 then .header
    else if bytes.length < (bytes.getD 1 0).toNat + 2 then .body else .check
  bytes := bytes
  gap := some (now + 500)

/-- R176: bytes as many as their LEN byte says, which lies in 3 to 251. -/
def framed (bytes : List Byte) : Prop :=
  bytes.length = (bytes.getD 1 0).toNat + 4 ∧ 3 ≤ (bytes.getD 1 0).toNat ∧ (bytes.getD 1 0).toNat ≤ 251

/-- R176: the state amid a frame whose last byte so far came at an instant. -/
def State.amid (s : State) (bytes : List Byte) (t : Nat) : State :=
  (s.atTime t).setRx (.amid bytes (max s.now t))

variable {s : State} {t u : Nat} {bytes rest : List Byte} {b : Byte}

/-- R176: the next byte within the gap is taken at its own instant. -/
theorem byteAt_amid (htu : t ≤ u) (hgap : u ≤ t + 500) (bytes : List Byte) (b : Byte) :
    byteAt u b true (s.amid bytes t) = goodByte b ((s.atTime u).setRx (.amid bytes (max s.now t))) := by
  have htimely : (s.amid bytes t).timely u := by
    rintro _ ⟨⟩
    simp only [State.amid, setRx_keeps, atTime_now]
    omega
  have hinstant : max (max s.now t) u = max s.now u := by omega
  have htaken : (s.amid bytes t).atTime u = (s.atTime u).setRx (.amid bytes (max s.now t)) := by
    simp only [State.amid, State.atTime, State.setRx, hinstant]
  rw [byteAt_of_timely htimely, receiveByte_good, htaken]

/-- A byte kept amid a frame, in the state that the frame's bytes so far fix. -/
theorem keepByte_amid {st : RxState} {n : Nat} (h : (Receiver.amid (bytes ++ [b]) (max s.now u)).state = st) :
    keepByte st b ((s.atTime u).setRx (.amid bytes n)) = s.amid (bytes ++ [b]) u := by
  subst h
  rfl

theorem amid_state_header (h : bytes.length < 2) (n : Nat) : (Receiver.amid bytes n).state = .header := if_pos h

theorem amid_state_body (h : 2 ≤ bytes.length) (hlen : bytes.length < (bytes.getD 1 0).toNat + 2) (n : Nat) :
    (Receiver.amid bytes n).state = .body := (if_neg (Nat.not_lt.mpr h)).trans (if_pos hlen)

theorem amid_state_check (h : 2 ≤ bytes.length) (hlen : (bytes.getD 1 0).toNat + 2 ≤ bytes.length) (n : Nat) :
    (Receiver.amid bytes n).state = .check :=
  (if_neg (Nat.not_lt.mpr h)).trans (if_neg (Nat.not_lt.mpr hlen))

theorem getD_append_of_lt (h : 2 ≤ bytes.length) (rest : List Byte) :
    (bytes ++ rest).getD 1 0 = bytes.getD 1 0 := List.getD_append _ _ _ _ h

/-- R176: a byte amid a frame is kept, and the receiver's state is again the one that its bytes fix. -/
theorem goodByte_amid {n : Nat} (hframe : framed (bytes ++ b :: rest)) (hpos : 1 ≤ bytes.length)
    (hmore : 1 ≤ rest.length) :
    goodByte b ((s.atTime u).setRx (.amid bytes n)) = s.amid (bytes ++ [b]) u := by
  obtain ⟨hlen, hmin, hmax⟩ := hframe
  simp only [List.length_append, List.length_cons] at hlen
  have hnext : (bytes ++ [b]).length = bytes.length + 1 := by simp
  rcases Nat.lt_or_ge bytes.length 2 with hhead | hhead
  · obtain ⟨x, rfl⟩ := List.length_eq_one_iff.mp (show bytes.length = 1 by omega)
    have hbody : 2 < b.toNat + 2 := Nat.lt_add_of_pos_left (Nat.lt_of_lt_of_le (by decide) hmin)
    rw [goodByte_header (amid_state_header hhead n)]
    refine (if_pos ((within_iff _ _ _).mpr ⟨hmin, hmax⟩)).trans (keepByte_amid ?_)
    exact amid_state_body (bytes := [x] ++ [b]) (Nat.le_refl 2) hbody _
  · have hkept := getD_append_of_lt hhead
    rw [hkept] at hlen
    rcases Nat.lt_or_ge bytes.length ((bytes.getD 1 0).toNat + 2) with hbody | hcheck
    · rw [goodByte_body (amid_state_body hhead hbody n)]
      refine keepByte_amid ?_
      have hcond : bytes.length + 1 = (Receiver.amid bytes n).len + 2 ↔
          (bytes.getD 1 0).toNat + 2 ≤ bytes.length + 1 := by
        rw [show (Receiver.amid bytes n).len = (bytes.getD 1 0).toNat from rfl]
        omega
      split
      · next h => exact amid_state_check (by omega) (by rw [hkept, hnext]; exact hcond.mp h) _
      · next h => exact amid_state_body (by omega) (by rw [hkept, hnext]; exact Nat.lt_of_not_le (mt hcond.mpr h)) _
    · have hcond : ¬ bytes.length + 1 = (Receiver.amid bytes n).len + 4 := by
        rw [show (Receiver.amid bytes n).len = (bytes.getD 1 0).toNat from rfl]
        omega
      rw [goodByte_check (amid_state_check hhead hcheck n)]
      refine (if_neg hcond).trans (keepByte_amid (amid_state_check (by omega) ?_ _))
      rw [hkept, hnext]
      omega

theorem setRx_idle (h : s.link.rx = .idle) (r : Receiver) : (s.setRx r).setRx .idle = s := by
  rw [← h]
  rfl

/-- R176: the last byte of a frame completes it, and the receiver hunts again. -/
theorem goodByte_last {n : Nat} (hframe : framed (bytes ++ [b])) (hidle : s.link.rx = .idle) :
    goodByte b ((s.atTime u).setRx (.amid bytes n)) = frameComplete (bytes ++ [b]) (s.atTime u) := by
  obtain ⟨hlen, hmin, -⟩ := hframe
  have hnext : (bytes ++ [b]).length = bytes.length + 1 := by simp
  have hhead : 2 ≤ bytes.length := by omega
  rw [getD_append_of_lt hhead] at hlen
  rw [goodByte_check (amid_state_check hhead (by omega) n)]
  refine (if_pos (by rw [hnext] at hlen; exact hlen)).trans ?_
  rw [setRx_idle (s := s.atTime u) hidle]
  rfl

theorem receiveAll_cons (t : Nat) (b : Byte) (bs : List (Nat × Byte)) (s : State) :
    receiveAll ((t, b) :: bs) s = receiveAll bs (byteAt t b true s) := rfl

/-- R176: the rest of a frame, byte by byte within the gap, completes it at its last byte. -/
theorem receiveAll_amid {times : List Nat} {last : Nat} (hidle : s.link.rx = .idle)
    (hframe : framed (bytes ++ rest)) (hpos : 1 ≤ bytes.length) (htimes : times.length = rest.length)
    (hstep : inStep t times) (hlast : times.getLast? = some last) :
    receiveAll (times.zip rest) (s.amid bytes t) = .next (frameComplete (bytes ++ rest) (s.atTime last)) := by
  induction rest generalizing bytes t times with
  | nil =>
    obtain rfl := List.length_eq_zero_iff.mp htimes
    cases hlast
  | cons b rest ih =>
    obtain ⟨u, times, rfl⟩ := List.exists_cons_of_length_eq_add_one htimes
    obtain ⟨htu, hgap, hstep⟩ := hstep
    rw [List.zip_cons_cons, receiveAll_cons, byteAt_amid htu hgap]
    rw [List.length_cons, List.length_cons, Nat.add_right_cancel_iff] at htimes
    cases rest with
    | nil =>
      obtain rfl := List.length_eq_zero_iff.mp htimes
      cases hlast
      rw [goodByte_last hframe hidle]
      rfl
    | cons c rest =>
      obtain ⟨v, times, rfl⟩ := List.exists_cons_of_length_eq_add_one htimes
      have hnext := List.append_cons bytes b (c :: rest)
      rw [goodByte_amid hframe hpos (by simp), hnext]
      exact ih (hnext ▸ hframe) (by simp) htimes hstep hlast

/-! ### The frame that its bytes carry (R176, R177) -/

section Frame

variable (ctrl seq type : Byte) (payload : List Byte)

theorem frameBytes_length : (frameBytes ctrl seq type payload).length = payload.length + 7 := by
  simp [frameBytes, frameCore]

theorem framed_frameBytes (h : payload.length ≤ 248) : framed (frameBytes ctrl seq type payload) := by
  have hlen : ((frameBytes ctrl seq type payload).getD 1 0).toNat = payload.length + 3 := by
    refine (BitVec.toNat_ofNat (payload.length + 3) 8).trans (Nat.mod_eq_of_lt ?_)
    omega
  rw [framed, hlen, frameBytes_length]
  omega

theorem crcAgrees_frameBytes : crcAgrees (frameBytes ctrl seq type payload) = true := by
  have hlen := frameBytes_length ctrl seq type payload
  have hcore : (frameCore ctrl seq type payload).length = payload.length + 4 := rfl
  have htaken : ((frameBytes ctrl seq type payload).drop 1).take (payload.length + 4) =
      frameCore ctrl seq type payload := by
    rw [← hcore]
    exact List.take_left
  have hcrc : (frameBytes ctrl seq type payload).drop (payload.length + 5) =
      leBytes 2 (crc16 (frameCore ctrl seq type payload)).toNat := by
    rw [show payload.length + 5 = (syncByte :: frameCore ctrl seq type payload).length from rfl]
    exact List.drop_left
  rw [crcAgrees, hlen, beq_iff_eq]
  exact (congrArg (fun core => leBytes 2 (crc16 core).toNat) htaken).trans hcrc.symm

/-- R177: a frame with CTRL bits 7 to 4 zero is served with its number, acknowledgement, type and payload. -/
theorem frameComplete_frameBytes (num : BitVec 4) (s : State) :
    frameComplete (frameBytes (num.zeroExtend 8) seq type payload) s =
      serveFrame num seq type (parseRequest type payload) s := by
  have hhigh : (num.zeroExtend 8).extractLsb' 4 4 = 0 := by revert num; decide
  have hlow : (num.zeroExtend 8).extractLsb' 0 4 = num := by revert num; decide
  have hpayload : ((frameBytes (num.zeroExtend 8) seq type payload).drop 5).take
      ((frameBytes (num.zeroExtend 8) seq type payload).length - 7) = payload := by
    rw [frameBytes_length]
    exact List.take_left
  rw [frameComplete, if_pos (crcAgrees_frameBytes _ _ _ _), hpayload]
  refine (if_pos hhigh).trans (Eq.trans ?_ (congrArg (serveFrame · seq type _ s) hlow))
  rfl

end Frame

/-- R176: a hunting receiver takes the SYNC byte of a frame. -/
theorem byteAt_sync (hidle : s.link.rx = .idle) (t : Nat) : byteAt t syncByte true s = s.amid [syncByte] t := by
  rw [byteAt_of_timely (timely_of_idle hidle t)]
  exact receiveByte_hunting_sync (s := s.atTime t) (congrArg Receiver.state hidle) (congrArg Receiver.bytes hidle)

/-- Settles O45: the SYNC byte, the bytes amid the frame, and the frame complete at its last byte. -/
theorem validFrameIsServedAtItsLastByte : Obligations.ValidFrameIsServedAtItsLastByte := by
  intro num ack type payload first last rest s hpayload hidle hlen hstep hlast
  have hframe := framed_frameBytes (num.zeroExtend 8) ack type payload hpayload
  rw [← frameComplete_frameBytes]
  exact (congrArg (receiveAll _) (byteAt_sync hidle first)).trans
    (receiveAll_amid hidle hframe (Nat.le_refl 1) (Nat.add_right_cancel hlen) hstep hlast)

/-! ### Requests and their bytes (R190, R191) -/

theorem parseRequest_payload (r : Request) : parseRequest r.typeCode r.payload = .ok r := by
  cases r with
  | setLinkTiming | readTripRecord | releaseTripRecord =>
    simp [parseRequest, Request.typeCode, Request.payload, parse2, Half.bytes]
  | configZone => simp [parseRequest, Request.typeCode, Request.payload, parseConfigZone, Half.bytes]
  | queueOrder => simp [parseRequest, Request.typeCode, Request.payload, parseQueueOrder, Half.bytes]
  | abortOrder => simp [parseRequest, Request.typeCode, Request.payload, parseAbortOrder, Half.bytes]
  | setLimits => simp [parseRequest, Request.typeCode, Request.payload, parseSetLimits, Half.bytes]
  | setSupervision => simp [parseRequest, Request.typeCode, Request.payload, parseSetSupervision, Half.bytes]
  | setContactorTiming =>
    simp [parseRequest, Request.typeCode, Request.payload, parseSetContactorTiming, Half.bytes]
  | _ => rfl

theorem payload_length_le (r : Request) : r.payload.length ≤ 248 := by
  cases r <;> simp [Request.payload, Half.bytes]

/-- Settles O46: a request reads back from its payload, and its frame received serves it. -/
theorem requestCommandIsItsFrameReceived : Obligations.RequestCommandIsItsFrameReceived := by
  refine ⟨parseRequest_payload, fun i hd r first rest s hreq hidle hlen hstep hlast => ?_⟩
  have hserved := validFrameIsServedAtItsLastByte hd.num hd.ack r.typeCode r.payload first hd.time rest s
    (payload_length_le r) hidle hlen hstep hlast
  rw [parseRequest_payload] at hserved
  exact hserved.trans (exec_of_requestOf s hreq).symm

end Sys2Proof.Machine
end

section
/-! SUPPORT. The host link in two parts: what holds of it before the transmitter's choice, which reports that are
submitted leave as it is, and the choice, which makes it sound. Settles O48. -/

namespace Sys2Proof.Machine

/-! ### Requests that are not executed (R179, R180) -/

theorem typeCode_ne_linkSync {r : Request} (h : r ≠ .linkSync) : r.typeCode ≠ 0x03 := by
  cases r with
  | linkSync => exact absurd rfl h
  | _ => exact nofun

/-- Settles O48: a request command is its frame served, which is dropped or answered by the stored reply. -/
theorem busyAndRepeatedRequestsAreNotExecuted : Obligations.BusyAndRepeatedRequestsAreNotExecuted := by
  intro i hd r s hreq s1
  rw [exec_of_requestOf s hreq]
  exact ⟨fun hp ht => congrArg Host.Outcome.next (serve_busy s hd r hp ht),
    fun hp hn hr => congrArg Host.Outcome.next (serve_repeated s hd r hp hn (typeCode_ne_linkSync hr))⟩

/-! ### The link counters (Table 10-2) -/

/-- Table 10-2: every counter within its 16 bits. -/
def LinkCounters.bounded (c : LinkCounters) : Prop := ∀ n ∈ c.list, n ≤ max16

/-- The counter of a place in Table 10-2 raised by one, stopping at its bound. -/
theorem LinkCounters.bounded.raise {c c' : LinkCounters} (h : c.bounded) (place : Nat) {n : Nat}
    (hset : c'.list = c.list.set place (bump n)) : c'.bounded := by
  intro m hm
  rw [hset] at hm
  rcases List.mem_or_eq_of_mem_set hm with hm | rfl
  · exact h m hm
  · exact satAdd_le _ _ _

/-! ### The link before the transmitter's choice (R174, R180, R184) -/

/-- R174, R176, R180, R188: what the link's own registers keep. -/
def Link.sound (l : Link) : Prop :=
  l.rx.sound ∧ l.lastNum = l.stored.map (·.num) ∧ (l.replyPending = true → l.stored.isSome) ∧
  (10 ≤ l.interval ∧ l.interval ≤ 500) ∧ l.counters.bounded

/-- R184, R185: the retransmit timer runs only while an entry is sent-unacknowledged, and runs then unless a report
frame is on TXD. -/
def State.sentWatched (s : State) : Prop :=
  (s.link.retransmitAt.isSome → 0 < s.reports.sentCount) ∧
  (0 < s.reports.sentCount → (∀ f, s.link.tx ≠ .report f) → s.link.retransmitAt.isSome)

/-- The host link sound, but for the choice that an idle transmitter has still to make. -/
def State.beforeChoice (s : State) : Prop := s.link.sound ∧ s.sentWatched

theorem linkSound_iff (s : State) : s.linkSound ↔ s.beforeChoice ∧
    (s.link.tx = .idle → s.link.replyPending = false ∧ s.reports.takeReport = none) := by
  constructor
  · rintro ⟨hrx, hlast, hstored, hinterval, hcount, hchosen, hruns, hwatched⟩
    exact ⟨⟨⟨hrx, hlast, hstored, hinterval, hcount⟩, hruns, hwatched⟩, hchosen⟩
  · rintro ⟨⟨⟨hrx, hlast, hstored, hinterval, hcount⟩, hruns, hwatched⟩, hchosen⟩
    exact ⟨hrx, hlast, hstored, hinterval, hcount, hchosen, hruns, hwatched⟩

variable {s t : State}

theorem State.linkSound.before (h : s.linkSound) : s.beforeChoice := ((linkSound_iff s).mp h).1

/-- The timer's question reads only the transmitter, the timer and the number of sent entries. -/
theorem State.sentWatched.of_eq (h : s.sentWatched) (htx : t.link.tx = s.link.tx)
    (hat : t.link.retransmitAt = s.link.retransmitAt) (hsent : t.reports.sentCount = s.reports.sentCount) :
    t.sentWatched := by
  rwa [State.sentWatched, htx, hat, hsent]

theorem State.linkSound.of_eq (h : s.linkSound) (hlink : t.link = s.link) (hreports : t.reports = s.reports) :
    t.linkSound := by
  rwa [State.linkSound, hlink, hreports]

/-- Table 10-2: a raised counter leaves the rest of the link. -/
theorem State.beforeChoice.count (h : s.beforeChoice) {f : LinkCounters → LinkCounters} (place : Nat) {n : Nat}
    (hset : (f s.link.counters).list = s.link.counters.list.set place (bump n)) : (s.count f).beforeChoice := by
  obtain ⟨⟨hrx, hlast, hstored, hinterval, hcount⟩, hwatched⟩ := h
  exact ⟨⟨hrx, hlast, hstored, hinterval, hcount.raise place hset⟩, hwatched⟩

theorem State.linkSound.count (h : s.linkSound) {f : LinkCounters → LinkCounters} (place : Nat) {n : Nat}
    (hset : (f s.link.counters).list = s.link.counters.list.set place (bump n)) : (s.count f).linkSound := by
  obtain ⟨hbefore, hchosen⟩ := (linkSound_iff s).mp h
  exact (linkSound_iff _).mpr ⟨hbefore.count place hset, hchosen⟩

/-- R176: another sound receiver leaves the rest of the link. -/
theorem State.linkSound.setRx (h : s.linkSound) {r : Receiver} (hr : r.sound) : (s.setRx r).linkSound := by
  obtain ⟨-, hrest⟩ := h
  exact ⟨hr, hrest⟩

/-! ### Submitted reports (R161 to R163) -/

variable {q p : ReportQueue}

/-- An entry that enters is unsent, and one that leaves to an eviction was never sent. -/
theorem sentCount_offer (hq : q.sound) (r : Report) : (q.offer r).sentCount = q.sentCount := by
  obtain ⟨⟨hdepth, -, -, hsent, -⟩, -, -, -, -, halert⟩ := (queue_sound_iff q).mp hq
  cases hm : q.generates r with
  | false => rw [offer_of_masked hm]
  | true =>
    rcases Nat.lt_or_eq_of_le hdepth with hlen | hlen
    · rw [offer_of_room hm hlen halert]
      simp [ReportQueue.sentCount, ReportQueue.entering, enteredAs]
    · cases hr : r.critical with
      | false =>
        rw [offer_of_full_ordinary hm hlen hr]
        rfl
      | true =>
        rcases evictable_cases q.entries with hnone | ⟨a, e, b, hes, he, hb⟩
        · rw [offer_of_full_critical hlen hr hnone]
          rfl
        · obtain ⟨-, hever⟩ := (evictable_iff e).mp he
          have hunsent : e.sent = false := by simpa [hever] using hsent e (by simp [hes])
          rw [offer_of_eviction hes hlen hr (halert.mpr (by simp [hes])) he hb]
          simp [ReportQueue.sentCount, hes, hunsent, enteredAs, List.countP_map, Function.comp_def,
            QueueEntry.lowered]

theorem sentCount_offerAll (rs : List Report) (hq : q.sound) : (q.offerAll rs).sentCount = q.sentCount := by
  induction rs generalizing q with
  | nil => rfl
  | cons r rs ih => exact (ih (offer_sound hq r)).trans (sentCount_offer hq r)

theorem State.reportedSince.sentCount (h : t.reportedSince s) (hq : s.reports.sound) :
    t.reports.sentCount = s.reports.sentCount := by
  obtain ⟨rs, h⟩ := h
  rw [h, sentCount_offerAll rs hq]

/-- R160: a happening that submits reports and leaves the link brings the transmitter to its choice. -/
theorem State.beforeChoice.reported (h : s.beforeChoice) (hq : s.reports.sound) (hlink : t.link = s.link)
    (hreported : t.reportedSince s) : t.beforeChoice := by
  obtain ⟨hlinkSound, hwatched⟩ := h
  exact ⟨hlink ▸ hlinkSound, hwatched.of_eq (by rw [hlink]) (by rw [hlink]) (hreported.sentCount hq)⟩

/-! ### The transmitter's choice (R182) -/

theorem sentCount_pos_of_takeReport {e : QueueEntry} (h : q.takeReport = some (e, p)) : 0 < p.sentCount := by
  rcases takeReport_cases q with hnone | ⟨a, e, b, -, -, -, -, htake⟩
  · rw [hnone] at h
    cases h
  · rw [htake] at h
    cases h
    exact List.countP_pos_iff.mpr ⟨e.onLine, by simp, rfl⟩

/-- R182: a report goes on TXD, so that its end starts the timer. -/
theorem beginReport_linkSound {e : QueueEntry} (h : s.beforeChoice) (htake : s.reports.takeReport = some (e, p)) :
    (beginReport e p s).linkSound := by
  obtain ⟨⟨hrx, hlast, hstored, hinterval, hcount⟩, -⟩ := h
  exact (linkSound_iff _).mpr ⟨⟨⟨hrx, hlast, hstored, hinterval, hcount.raise 11 rfl⟩,
    fun _ => sentCount_pos_of_takeReport htake, fun _ hnone => absurd rfl (hnone e.frame)⟩, nofun⟩

/-- R182: the reply goes on TXD, behind an idle transmitter, so that what was sent is watched already. -/
theorem beginReply_linkSound (h : s.beforeChoice) (hidle : s.link.tx = .idle) (r : Reply) :
    (beginReply r s).linkSound := by
  obtain ⟨⟨hrx, hlast, -, hinterval, hcount⟩, hruns, hwatched⟩ := h
  exact (linkSound_iff _).mpr ⟨⟨⟨hrx, hlast, nofun, hinterval, hcount.raise 10 rfl⟩, hruns,
    fun hsent _ => hwatched hsent (by simp [hidle])⟩, nofun⟩

/-- R182: after its choice an idle transmitter has nothing to send. -/
theorem txChoose_linkSound (h : s.beforeChoice) : (txChoose s).linkSound := by
  by_cases hidle : s.link.tx = .idle
  · cases hp : s.link.replyPending with
    | true =>
      obtain ⟨⟨-, -, hstored, -⟩, -⟩ := id h
      obtain ⟨r, hr⟩ := Option.isSome_iff_exists.mp (hstored hp)
      rw [txChoose_of_reply hidle hp hr]
      exact beginReply_linkSound h hidle r
    | false =>
      rw [txChoose_of_not_pending hidle hp]
      cases htake : s.reports.takeReport with
      | none =>
        rw [chooseReport_of_none htake]
        exact (linkSound_iff s).mpr ⟨h, fun _ => ⟨hp, htake⟩⟩
      | some taken =>
        obtain ⟨e, p⟩ := taken
        rw [chooseReport_of_some htake]
        exact beginReport_linkSound h htake
  · rw [txChoose_busy s hidle]
    exact (linkSound_iff s).mpr ⟨h, fun hi => absurd hi hidle⟩

end Sys2Proof.Machine
end

section
/-! SUPPORT. The host link stays sound: request frames, the receiver, the end of a frame and the retransmit timer, and
every command. Settles O14. -/

namespace Sys2Proof.Machine

variable {s t : State}

/-! ### Request frames (R177 to R181) -/

/-- Every request but LINK_SYNC and SET_LINK_TIMING leaves the host link. -/
theorem answer_link (r : Request) (s : State) (hsync : r ≠ .linkSync) (htiming : ∀ i, r ≠ .setLinkTiming i) :
    (answer r s).state.link = s.link := by
  cases r with
  | linkSync => exact absurd rfl hsync
  | setLinkTiming i => exact absurd rfl (htiming i)
  | closeGroup g =>
    rcases answerCloseGroup_cases (groupNumber g) s with e | ⟨-, e⟩
    · exact (congrArg State.link e :)
    · exact (congrArg State.link e :)
  | ackTrip g =>
    rcases answerAckTrip_cases (groupNumber g) s with e | ⟨-, e⟩
    · exact (congrArg State.link e :)
    · exact (congrArg State.link e :)
  | readTripRecord n => exact (congrArg State.link (answerReadTripRecord_state n s) :)
  | releaseTripRecord n =>
    obtain ⟨store, e⟩ := answerReleaseTripRecord_state n s
    exact (congrArg State.link e :)
  | setFrame | configZone | enableZone | disableZone | setDemand | clearZone | queueOrder | abortOrder
  | openGroup | tripAll | clearTally =>
    simp only [answer, answerSetFrame, answerConfigZone, answerEnableZone, answerDisableZone, answerSetDemand,
      State.setDemand, answerClearZone, answerQueueOrder, State.appendOrder, State.orderAccepted, answerAbortOrder,
      abortBehind, answerOpenGroup, answerTripAll, answerClearTally]
    (repeat' split) <;> simp [State.grant, State.deny, State.grantDemand, State.grantGroup]
  | _ => rfl

/-- R173, R186: LINK_SYNC leaves nothing stored and nothing sent. -/
theorem answerLinkSync_beforeChoice (h : s.beforeChoice) (hp : s.link.replyPending = false) :
    (answerLinkSync s).state.beforeChoice := by
  obtain ⟨⟨hrx, -, -, hrest⟩, -⟩ := h
  exact ⟨⟨hrx, rfl, fun hpending => absurd (hp.symm.trans hpending) nofun, hrest⟩, nofun,
    fun hsent => absurd hsent (Nat.lt_irrefl 0)⟩

/-- R188: the interval written lies in its range. -/
theorem answerSetLinkTiming_beforeChoice (h : s.beforeChoice) {i : Half} (hi : 10 ≤ i.toNat ∧ i.toNat ≤ 500) :
    (answerSetLinkTiming i s).state.beforeChoice := by
  obtain ⟨⟨hrx, hlast, hstored, -, hcount⟩, hwatched⟩ := h
  exact ⟨⟨hrx, hlast, hstored, hi, hcount⟩, hwatched⟩

theorem answer_beforeChoice {r : Request} (h : s.beforeChoice) (hq : s.reports.sound)
    (hp : s.link.replyPending = false) (hr : r.inRange s.mtu.len = true) : (answer r s).state.beforeChoice := by
  cases r with
  | linkSync => exact answerLinkSync_beforeChoice h hp
  | setLinkTiming i => exact answerSetLinkTiming_beforeChoice h ((within_iff _ _ _).mp hr)
  | setSubscription m => exact h
  | _ => exact h.reported hq (answer_link _ s nofun nofun) (reportedSince_answer _ s nofun nofun)

/-- R181: the reply is stored with its number. -/
theorem storeReply_beforeChoice (num : BitVec 4) (type : Byte) (code : ResultCode) (fields : List Byte)
    (h : s.beforeChoice) : (storeReply num type code fields s).beforeChoice := by
  obtain ⟨⟨hrx, -, -, hinterval, hcount⟩, hwatched⟩ := h
  exact ⟨⟨hrx, rfl, fun _ => rfl, hinterval, hcount.raise 9 rfl⟩, hwatched⟩

theorem execute_beforeChoice (num : BitVec 4) (type : Byte) (p : Parsed) (h : s.beforeChoice)
    (hq : s.reports.sound) (hp : s.link.replyPending = false) : (execute num type p s).beforeChoice := by
  unfold execute
  split
  · exact storeReply_beforeChoice _ _ _ _ h
  · split
    · next hr => exact storeReply_beforeChoice _ _ _ _ (answer_beforeChoice h hq hp hr)
    · exact storeReply_beforeChoice _ _ _ _ h

/-- R180: a repeated number is that of a stored reply. -/
theorem replay_beforeChoice {num : BitVec 4} {type : Byte} (h : s.beforeChoice)
    (hrepeats : s.repeats num type = true) : (replay s).beforeChoice := by
  obtain ⟨⟨hrx, hlast, -, hinterval, hcount⟩, hwatched⟩ := h
  obtain ⟨hnum, -⟩ := Bool.and_eq_true_iff.mp hrepeats
  have hstored : s.link.stored.isSome := by
    rw [← Option.isSome_map, ← hlast, eq_of_beq hnum]
    rfl
  exact ⟨⟨hrx, hlast, fun _ => hstored, hinterval, hcount.raise 6 rfl⟩, hwatched⟩

/-- R184: the timer is restarted if an entry remains sent-unacknowledged, and stopped if none does. -/
theorem ackAdvances_beforeChoice (h : s.link.sound) : (ackAdvances s).beforeChoice := by
  unfold ackAdvances
  split
  · next hsent => exact ⟨h, fun _ => hsent, fun _ _ => rfl⟩
  · next hnone => exact ⟨h, nofun, fun hsent => absurd hsent hnone⟩

theorem applyAck_beforeChoice (a : Byte) (h : s.beforeChoice) : (applyAck a s).beforeChoice := by
  unfold applyAck
  split
  · dsimp only
    split
    · exact h
    · obtain ⟨hlink, -⟩ := h
      refine (txChoose_linkSound (ackAdvances_beforeChoice ?_)).before
      exact hlink
  · exact h.count 7 rfl

theorem serveFrame_linkSound (num : BitVec 4) (ack type : Byte) (p : Parsed) (h : s.beforeChoice)
    (hq : s.reports.sound) : (serveFrame num ack type p s).linkSound := by
  have hack := applyAck_beforeChoice ack (h.count (f := fun c => { c with framesReceived := bump c.framesReceived })
    0 rfl)
  refine txChoose_linkSound ?_
  unfold handleRequest
  split
  · exact hack.count 5 rfl
  · next hp =>
    split
    · next hrepeats => exact replay_beforeChoice hack hrepeats
    · exact execute_beforeChoice num type p hack (applyAck_reports_sound ack hq) (Bool.eq_false_iff.mpr hp)

/-! ### The receiver (R176, R177) -/

section Receiver

variable {r : Receiver} {b : Byte}

/-- R176: after the LEN byte. -/
theorem sound_afterLen (hb : within 3 251 b.toNat = true) (n : Nat) :
    Receiver.sound { state := .body, bytes := [syncByte, b], gap := some n } := by
  obtain ⟨hmin, hmax⟩ := (within_iff _ _ _).mp hb
  exact ⟨rfl, rfl, ⟨hmin, hmax⟩, Nat.le_refl 2, Nat.lt_add_of_pos_left (Nat.lt_of_lt_of_le (by decide) hmin)⟩

/-- R176: a further byte leaves the LEN byte. -/
theorem len_append (h : 2 ≤ r.bytes.length) (st : RxState) (b : Byte) (gap : Option Nat) :
    Receiver.len { state := st, bytes := r.bytes ++ [b], gap := gap } = r.len :=
  congrArg BitVec.toNat (getD_append_of_lt h [b])

/-- R176: after a byte of the body, which may be its last. -/
theorem Receiver.sound.bodyByte (h : r.sound) (hst : r.state = .body) (b : Byte) (n : Nat) : Receiver.sound
    { state := if r.bytes.length + 1 = r.len + 2 then .check else .body, bytes := r.bytes ++ [b], gap := some n } := by
  rw [Receiver.sound, hst] at h
  obtain ⟨hsync, -, hrange, hmin, hmax⟩ := h
  have hhead : (r.bytes ++ [b]).head? = some syncByte := by rw [List.head?_append, hsync]; rfl
  have hnext : (r.bytes ++ [b]).length = r.bytes.length + 1 := List.length_append
  have hlen := len_append hmin (b := b)
  split
  all_goals
    refine ⟨hhead, rfl, ?_⟩
    simp only [hlen, hnext]
    omega

/-- R176: after the first of the two CRC bytes. -/
theorem Receiver.sound.checkByte (h : r.sound) (hst : r.state = .check) (hmore : r.bytes.length + 1 ≠ r.len + 4)
    (b : Byte) (n : Nat) : Receiver.sound { state := .check, bytes := r.bytes ++ [b], gap := some n } := by
  rw [Receiver.sound, hst] at h
  obtain ⟨hsync, -, hrange, hmin, hmax⟩ := h
  have hhead : (r.bytes ++ [b]).head? = some syncByte := by rw [List.head?_append, hsync]; rfl
  have hnext : (r.bytes ++ [b]).length = r.bytes.length + 1 := List.length_append
  have hlen := len_append (Nat.le_trans (Nat.le_add_left 2 r.len) hmin) (b := b)
  refine ⟨hhead, rfl, ?_⟩
  simp only [hlen, hnext]
  omega

end Receiver

theorem idle_sound : Receiver.idle.sound := ⟨rfl, rfl⟩

theorem frameComplete_linkSound (bytes : List Byte) (h : s.linkSound) (hq : s.reports.sound) :
    (frameComplete bytes s).linkSound := by
  unfold frameComplete validFrame
  split
  · split
    · exact serveFrame_linkSound _ _ _ _ h.before hq
    · exact h.count 4 rfl
  · exact h.count 3 rfl

theorem abandonFraming_linkSound (h : s.linkSound) : (abandonFraming s).linkSound :=
  (h.setRx idle_sound).count 1 rfl

/-- R176: a byte with a good stop bit, by the receiver's state. -/
theorem goodByte_linkSound (b : Byte) (h : s.linkSound) (hq : s.reports.sound) : (goodByte b s).linkSound := by
  obtain ⟨hrx, -⟩ := id h
  have hbytes := hrx
  cases hst : s.link.rx.state with
  | hunting =>
    rw [Receiver.sound, hst] at hbytes
    obtain ⟨hbytes, -⟩ := hbytes
    rw [goodByte_hunting hst]
    split
    · next hb =>
      rw [keepByte, hbytes, hb]
      exact h.setRx ⟨rfl, rfl⟩
    · exact h
  | header =>
    rw [Receiver.sound, hst] at hbytes
    obtain ⟨hbytes, -⟩ := hbytes
    rw [goodByte_header hst]
    split
    · next hb =>
      rw [keepByte, hbytes]
      exact h.setRx (sound_afterLen hb _)
    · exact (h.setRx idle_sound).count 2 rfl
  | body =>
    rw [goodByte_body hst]
    exact h.setRx (hrx.bodyByte hst b _)
  | check =>
    rw [goodByte_check hst]
    split
    · exact frameComplete_linkSound _ (h.setRx idle_sound) hq
    · next hmore => exact h.setRx (hrx.checkByte hst hmore b _)

theorem receiveByte_linkSound (b : Byte) (ok : Bool) (h : s.linkSound) (hq : s.reports.sound) :
    (receiveByte b ok s).linkSound := by
  unfold receiveByte
  split
  · exact goodByte_linkSound b h hq
  · split
    · exact h
    · exact abandonFraming_linkSound h

theorem atTime_linkSound (h : s.linkSound) (time : Nat) : (s.atTime time).linkSound := h.of_eq rfl rfl

theorem gapExpiry_linkSound (h : s.linkSound) : (gapExpiry s).linkSound := by
  unfold gapExpiry
  split
  · next e _ => exact abandonFraming_linkSound (atTime_linkSound h e)
  · exact h

theorem byteAt_linkSound (time : Nat) (b : Byte) (ok : Bool) (h : s.linkSound) (hq : s.reports.sound) :
    (byteAt time b ok s).linkSound := by
  unfold byteAt
  split
  · exact receiveByte_linkSound b ok (atTime_linkSound (gapExpiry_linkSound h) time)
      (by simpa [gapExpiry_reports] using hq)
  · exact receiveByte_linkSound b ok (atTime_linkSound h time) hq

/-! ### The end of a frame and the retransmit timer (R182, R184, R185) -/

/-- R184: a report frame's end starts a stopped timer while an entry is sent-unacknowledged. -/
theorem frameEnds_linkSound (h : s.linkSound) : (frameEnds s).linkSound := by
  obtain ⟨hlink, hruns, hwatched⟩ := h.before
  cases htx : s.link.tx with
  | idle => rwa [frameEnds_of_idle htx]
  | reply f =>
    rw [frameEnds_of_reply htx]
    exact txChoose_linkSound ⟨hlink, hruns, fun hsent _ => hwatched hsent (by simp [htx])⟩
  | report f =>
    rw [frameEnds_of_report htx]
    refine txChoose_linkSound ⟨hlink, fun hrunning => ?_, fun hsent _ => ?_⟩
    · dsimp only at hrunning
      split at hrunning
      · next hstart =>
        obtain ⟨-, hsent⟩ := hstart
        exact (sentCount_pos_iff _).mpr hsent
      · exact hruns hrunning
    · dsimp only
      split
      · rfl
      · next hstart =>
        rw [Option.isSome_iff_ne_none]
        exact fun hstopped => hstart ⟨hstopped, (sentCount_pos_iff _).mp hsent⟩

/-- R167, R185: at its expiry the timer stops and nothing is sent-unacknowledged. -/
theorem retransmitExpiry_linkSound (h : s.linkSound) : (retransmitExpiry s).linkSound := by
  cases hat : s.link.retransmitAt with
  | none =>
    unfold retransmitExpiry
    rwa [hat]
  | some e =>
    obtain ⟨⟨hrx, hlast, hstored, hinterval, hcount⟩, -⟩ := h.before
    have hnone : s.reports.returnSent.sentCount = 0 := by
      simp [ReportQueue.sentCount, ReportQueue.returnSent]
    rw [retransmitExpiry_of_running hat]
    exact txChoose_linkSound ⟨⟨hrx, hlast, hstored, hinterval, hcount.raise 8 rfl⟩, nofun,
      fun hsent => absurd hsent (by simp [hnone])⟩

/-! ### Happenings that leave the host link -/

@[simp] theorem expireWindow_link (order : List Taker) (s : State) : (expireWindow order s).link = s.link := by
  unfold expireWindow
  split
  · dsimp only
    split <;> simp [syntheticCrossing, crossLocked]
  · rfl

@[simp] theorem settleWindow_link (order : List Taker) (time : Nat) (s : State) :
    (settleWindow order time s).link = s.link := by
  have expire : ∀ u : State, (if u.windowOver time then expireWindow order u else u).link = u.link := fun u => by
    split <;> simp
  exact (expire _).trans (expire s)

theorem classedEdge_link (order : List Taker) (ref : Nat) (s : State) : (classedEdge order ref s).link = s.link := by
  have real : ∀ i, (realCrossing order i s).link = s.link := fun i => by simp [realCrossing, crossLocked]
  have search : ∀ i, (searchEdge order i s).link = s.link := fun i => by
    unfold searchEdge
    dsimp only
    split <;> simp [lockMains]
  unfold classedEdge
  dsimp only
  split
  · rfl
  · split
    · split
      · exact real _
      · exact search _
    · split <;> rfl

theorem edge_link (order : List Taker) (s : State) : (edge order s).link = s.link := by
  unfold edge
  split
  · rfl
  · split
    · rfl
    · exact classedEdge_link order _ s

theorem edgeAt_link (order : List Taker) (time : Nat) (s : State) : (edgeAt order time s).link = s.link :=
  (edge_link order _).trans (settleWindow_link order _ s)

theorem openExpired_link (g : GroupId) (s : State) : (openExpired g s).link = s.link := by
  unfold openExpired
  split <;> simp

theorem verifyExpired_link (g : GroupId) (s : State) : (verifyExpired g s).link = s.link := by
  unfold verifyExpired
  split <;> simp

/-! ### Every command -/

/-- R172: STARTUP is on TXD, and the timer stopped until its frame ends. -/
theorem startUp_blank_linkSound (cause : ResetCause) (now : Nat) (b : Straps) (raw : Vector Bool 4) (stop : Bool)
    (store : TripStore) (pending : List Instr) :
    (startUp cause (State.blank now b raw stop store pending)).linkSound := by
  rw [startUp_blank]
  have hinterval : 10 ≤ 50 ∧ 50 ≤ 500 := by decide
  have hcount : { LinkCounters.zero with reportsSent := 1 }.bounded := by
    unfold LinkCounters.bounded
    decide
  exact ⟨idle_sound, rfl, nofun, hinterval, hcount, nofun, nofun, fun _ hnone => absurd rfl (hnone _)⟩

theorem onExpiry_linkSound (g : GroupId) (kind : TimerKind) {f : State → State}
    (hf : ∀ {u : State}, u.linkSound → u.reports.sound → (f u).linkSound) (h : s.linkSound)
    (hq : s.reports.sound) : (onExpiry g kind f s).linkSound := by
  unfold onExpiry
  split
  · exact hf (atTime_linkSound h _) hq
  · exact h

/-- R176, R180, R182, R184: every command keeps the host link sound. -/
theorem exec_keeps_linkSound (i : Instr) (h : s.linkSound) (hq : s.reports.sound) (hexec : exec i s = .next t) :
    t.linkSound := by
  have chosen : ∀ {v u : State}, v.link = u.link → v.reportedSince u → u.linkSound → u.reports.sound →
      (txChoose v).linkSound := fun hlink hreported hu huq =>
    txChoose_linkSound (hu.before.reported huq hlink hreported)
  have request : ∀ {hd : Header} {r : Request}, i.requestOf = some (hd, r) → t.linkSound := by
    intro hd r hreq
    rw [exec_of_requestOf s hreq] at hexec
    cases hexec
    exact serveFrame_linkSound _ _ _ _ (atTime_linkSound h hd.time).before hq
  cases i with
  | powerOn | pinReset => cases hexec; exact startUp_blank_linkSound _ _ _ _ _ _ _
  | zxEdge time order => cases hexec; exact chosen (edgeAt_link order time s) (reportedSince_edgeAt order time s) h hq
  | windowExpiry order =>
    cases hexec
    split
    · exact chosen (expireWindow_link order s) (reportedSince_expireWindow order s) h hq
    · exact h
  | midHalfCyclePoint cs first =>
    cases hexec
    split
    · split
      · next e _ _ => exact chosen (by simp) (reportedSince_midPoint cs first (s.atTime e)) (atTime_linkSound h e) hq
      · exact h
    · exact h
  | isenseReading v => cases hexec; exact h.of_eq (by simp) (by simp)
  | auxChange g =>
    cases hexec
    split
    · exact chosen (by simp) (reportedSince_auxChange g s) h hq
    · exact h
  | stopChange =>
    cases hexec
    split
    · exact chosen (by simp) (reportedSince_stopChange s) h hq
    · exact h
  | closeTimerExpiry g =>
    cases hexec
    exact onExpiry_linkSound g _ (chosen (by simp) (reportedSince_closeFailed g _)) h hq
  | releaseDeadlineExpiry g =>
    cases hexec
    exact onExpiry_linkSound g _ (fun hu _ => hu.of_eq (by simp) (by simp)) h hq
  | openTimerExpiry g =>
    cases hexec
    exact onExpiry_linkSound g _ (chosen (openExpired_link g _) (reportedSince_openExpired g _)) h hq
  | verifyTimerExpiry g =>
    cases hexec
    exact onExpiry_linkSound g _ (chosen (verifyExpired_link g _) (reportedSince_verifyExpired g _)) h hq
  | stuckContactTimerExpiry g =>
    cases hexec
    exact onExpiry_linkSound g _ (chosen (by simp) (reportedSince_weld g _ _)) h hq
  | rxByte time byte ok => cases hexec; exact byteAt_linkSound time byte ok h hq
  | byteGapTimeout => cases hexec; exact gapExpiry_linkSound h
  | txFrameEnd time => cases hexec; exact frameEnds_linkSound (atTime_linkSound h time)
  | retransmitTimerExpiry => cases hexec; exact retransmitExpiry_linkSound h
  | rawInputChange time line level => cases hexec; cases line <;> exact h.of_eq rfl rfl
  | _ => exact request rfl

/-- Settles O14: an idle step changes nothing, and a command is `exec_keeps_linkSound`. -/
theorem stepKeepsTheHostLinkSound : Obligations.StepKeepsTheHostLinkSound := by
  rintro s t ⟨-, -, -, -, -, -, -, -, hq, hlink⟩ h
  unfold step at h
  split at h
  · cases h
    exact hlink
  · next c cs _ =>
    exact exec_keeps_linkSound c (s := { s with pending := cs }) (hlink.of_eq rfl rfl) hq h

end Sys2Proof.Machine
end

section
/-! SUPPORT. Validation step by step: the types that are known, the length that each type's payload has, and the ranges
of the fields, with the reply that a refused request gets. Settles O47. -/

namespace Sys2Proof.Machine

/-! ### The type (R191 step 1, Table 11-2) -/

/-- A request of each type, in the order of Table 11-2. -/
def Request.ofEachType : List Request :=
  [.nop, .identify, .linkSync, .setLinkTiming 0, .queryLink, .setSubscription 0, .queryReportStatus, .setFrame 0,
   .queryMains, .configZone 0 0 0 0 0 0 0 0 0, .enableZone 0, .disableZone 0, .setDemand 0 0, .clearZone 0,
   .queryZone 0, .queueOrder 0 0 0 0, .abortOrder 0 0, .queryOrders 0, .setLimits 0 0 0 0 0, .queryPlan 0,
   .queryFrameSummary, .queryTally 0, .clearTally 0, .setSupervision 0 0 0 0, .querySupervision, .closeGroup 0,
   .openGroup 0, .ackTrip 0, .tripAll, .setContactorTiming 0 0 0, .queryGroups, .readTripRecord 0,
   .releaseTripRecord 0, .queryTripStore]

/-- R190: the 34 types of Table 11-2 count up from 0x01. -/
theorem ofEachType_typeCode : Request.ofEachType.map (·.typeCode.toNat) = List.range' 1 34 := by decide

theorem exists_typeCode {type : Byte} (hlow : 1 ≤ type.toNat) (hhigh : type.toNat ≤ 34) :
    ∃ r : Request, r.typeCode = type := by
  have hmem : type.toNat ∈ Request.ofEachType.map (·.typeCode.toNat) := by
    rw [ofEachType_typeCode, List.mem_range'_1]
    omega
  obtain ⟨r, -, hr⟩ := List.mem_map.mp hmem
  exact ⟨r, BitVec.eq_of_toNat_eq hr⟩

theorem parseRequest_outside {type : Byte} (h : type.toNat < 1 ∨ 34 < type.toNat) (p : List Byte) :
    parseRequest type p = .error .unknownRequest := by
  unfold parseRequest
  split
  on_goal 35 => rfl
  all_goals omega

theorem parseRequest_unknown {type : Byte} (h : ∀ r : Request, r.typeCode ≠ type) (p : List Byte) :
    parseRequest type p = .error .unknownRequest := by
  refine parseRequest_outside ?_ p
  by_contra hknown
  obtain ⟨r, hr⟩ := exists_typeCode (type := type) (by omega) (by omega)
  exact h r hr

/-! ### The length (R191 step 2, Table 11-4) -/

/-- R191 step 2: a reading of payloads that refuses every length but one. -/
def readsOnly (length : Nat) (read : List Byte → Parsed) : Prop :=
  ∀ p : List Byte, p.length ≠ length → read p = .error .badLength

theorem parse0_readsOnly (r : Request) : readsOnly 0 (parse0 r) := fun p h => by
  fun_cases parse0 r p
  exacts [absurd rfl h, rfl]

theorem parse1_readsOnly (f : Byte → Request) : readsOnly 1 (parse1 f) := fun p h => by
  fun_cases parse1 f p
  exacts [absurd rfl h, rfl]

theorem parse2_readsOnly (f : Half → Request) : readsOnly 2 (parse2 f) := fun p h => by
  fun_cases parse2 f p
  exacts [absurd rfl h, rfl]

theorem parseConfigZone_readsOnly : readsOnly 10 parseConfigZone := fun p h => by
  fun_cases parseConfigZone p
  exacts [absurd rfl h, rfl]

theorem parseSetDemand_readsOnly : readsOnly 2 parseSetDemand := fun p h => by
  fun_cases parseSetDemand p
  exacts [absurd rfl h, rfl]

theorem parseQueueOrder_readsOnly : readsOnly 6 parseQueueOrder := fun p h => by
  fun_cases parseQueueOrder p
  exacts [absurd rfl h, rfl]

theorem parseAbortOrder_readsOnly : readsOnly 3 parseAbortOrder := fun p h => by
  fun_cases parseAbortOrder p
  exacts [absurd rfl h, rfl]

theorem parseSetLimits_readsOnly : readsOnly 10 parseSetLimits := fun p h => by
  fun_cases parseSetLimits p
  exacts [absurd rfl h, rfl]

theorem parseSetSupervision_readsOnly : readsOnly 5 parseSetSupervision := fun p h => by
  fun_cases parseSetSupervision p
  exacts [absurd rfl h, rfl]

theorem parseSetContactorTiming_readsOnly : readsOnly 6 parseSetContactorTiming := fun p h => by
  fun_cases parseSetContactorTiming p
  exacts [absurd rfl h, rfl]

/-- R191 step 2: each type is read at the length of its requests alone. -/
theorem parseRequest_readsOnly (r : Request) : readsOnly r.payload.length (parseRequest r.typeCode) := by
  cases r with
  | nop | identify | linkSync | queryLink | queryReportStatus | queryMains | queryFrameSummary | querySupervision
  | tripAll | queryGroups | queryTripStore => exact parse0_readsOnly _
  | setSubscription | setFrame | enableZone | disableZone | clearZone | queryZone | queryOrders | queryPlan
  | queryTally | clearTally | closeGroup | openGroup | ackTrip => exact parse1_readsOnly _
  | setLinkTiming | readTripRecord | releaseTripRecord => exact parse2_readsOnly _
  | configZone => exact parseConfigZone_readsOnly
  | setDemand => exact parseSetDemand_readsOnly
  | queueOrder => exact parseQueueOrder_readsOnly
  | abortOrder => exact parseAbortOrder_readsOnly
  | setLimits => exact parseSetLimits_readsOnly
  | setSupervision => exact parseSetSupervision_readsOnly
  | setContactorTiming => exact parseSetContactorTiming_readsOnly

/-! ### The ranges (R191 step 3, Table 11-4) -/

theorem zoneInRange_iff (z : Byte) : zoneInRange z = true ↔ z.toNat ≤ 23 := by
  simp only [zoneInRange, decide_eq_true_eq, Nat.lt_succ_iff]

theorem groupInRange_iff (g : Byte) : groupInRange g = true ↔ g.toNat ≤ 3 := by
  simp only [groupInRange, decide_eq_true_eq, Nat.lt_succ_iff]

/-- A range from 0 is a bound alone. -/
theorem within_zero_iff (hi v : Nat) : within 0 hi v = true ↔ v ≤ hi := by
  simp [within_iff]

/-- A byte from 1 has no bound above. -/
theorem within_byte_iff (b : Byte) : within 1 255 b.toNat = true ↔ 1 ≤ b.toNat := by
  rw [within_iff]
  exact and_iff_left (Nat.le_of_lt_succ b.isLt)

/-- A two-byte field from 1 is any but 0. -/
theorem within_half_iff (v : Half) : within 1 65535 v.toNat = true ↔ v ≠ 0 := by
  rw [within_iff, and_iff_left (Nat.le_of_lt_succ v.isLt), Nat.one_le_iff_ne_zero]
  exact not_congr (BitVec.toNat_inj (y := 0))

/-- Table 11-4: the range check passes a request when every field lies in its range. -/
theorem inRange_iff (r : Request) (len : Nat) : r.inRange len = true ↔ r.fieldsInRange len := by
  cases r with
  | setLinkTiming | setFrame => exact within_iff _ _ _
  | setSubscription => exact within_zero_iff _ _
  | enableZone | disableZone | clearZone | queryZone | queryOrders | queryPlan | queryTally =>
    exact zoneInRange_iff _
  | closeGroup | openGroup | ackTrip => exact groupInRange_iff _
  | releaseTripRecord => exact within_half_iff _
  | clearTally => simp only [Request.inRange, Request.fieldsInRange, Bool.or_eq_true, beq_iff_eq, zoneInRange_iff]
  | setDemand | abortOrder | setLimits | setSupervision =>
    simp only [Request.inRange, Request.fieldsInRange, Bool.and_eq_true, zoneInRange_iff, within_zero_iff,
      within_byte_iff, within_half_iff, and_assoc]
  | configZone | queueOrder =>
    simp only [Request.inRange, Request.fieldsInRange, Bool.and_eq_true, zoneInRange_iff, groupInRange_iff,
      within_zero_iff, within_byte_iff, within_half_iff]
    simp only [within_iff, and_assoc]
  | setContactorTiming =>
    simp only [Request.inRange, Request.fieldsInRange, Bool.and_eq_true, within_iff, and_assoc]
  | _ => exact iff_of_true rfl trivial

/-! ### The reply of a refused request (R181, R190, R192) -/

/-- R179 to R181: a frame that neither a pending reply nor its number holds back is executed. -/
theorem serveFrame_of_accepts {s : State} {hd : Header} (h : s.accepts hd) (type : Byte) (p : Parsed) :
    serveFrame hd.num hd.ack type p (s.atTime hd.time) = txChoose (execute hd.num type p (s.received hd)) := by
  obtain ⟨hpending, hnum⟩ := h
  have hhandled : handleRequest hd.num type p (s.received hd) = execute hd.num type p (s.received hd) := by
    simp [handleRequest, State.repeats, received_not_pending s hd hpending, hnum]
  exact congrArg txChoose hhandled

/-- Settles O47: the three steps of validation in their order, the first two on the bytes of a frame and the third on
the request they carry. -/
theorem validationRefusesUnknownTypesLengthsAndRanges :
    Obligations.ValidationRefusesUnknownTypesLengthsAndRanges := by
  refine ⟨fun _ p htype => parseRequest_unknown htype p, fun r => parseRequest_readsOnly r,
    fun hd type p code s h hparse => ?_, fun i hd r s hreq h hfields => ?_⟩
  · rw [hparse]
    exact serveFrame_of_accepts h type (.error code)
  · have hrange : r.inRange s.mtu.len = false :=
      Bool.eq_false_iff.mpr (mt (inRange_iff r s.mtu.len).mp hfields)
    rw [exec_of_requestOf s hreq, serve_out_of_range s hd r h hrange, replying_eq (code := .range) _ hd _ _ nofun]

end Sys2Proof.Machine
end

section
/-! SUPPORT. The waiting commands: no command writes the queue behind it, whatever it does to the blocks.
Settles O1. -/

namespace Sys2Proof.Machine

/-! ### Requests -/

theorem setDemand_pending (s : State) (z : ZoneId) (d : Nat) : (s.setDemand z d).pending = s.pending := by
  unfold State.setDemand
  split <;> simp

theorem appendOrder_pending (s : State) (z : ZoneId) (tag : Half) (total cap : Nat) :
    (s.appendOrder z tag total cap).pending = s.pending := by
  simp [appendOrder_eq]

/-- No request reaches the waiting commands. -/
theorem answer_pending (r : Request) (s : State) : (answer r s).state.pending = s.pending := by
  cases r with
  | closeGroup g =>
    rcases answerCloseGroup_cases (groupNumber g) s with e | ⟨-, e⟩ <;> exact (congrArg State.pending e :)
  | ackTrip g =>
    rcases answerAckTrip_cases (groupNumber g) s with e | ⟨-, e⟩ <;> exact (congrArg State.pending e :)
  | readTripRecord n => exact (congrArg State.pending (answerReadTripRecord_state n s) :)
  | releaseTripRecord n =>
    obtain ⟨store, e⟩ := answerReleaseTripRecord_state n s
    exact (congrArg State.pending e :)
  | setFrame | configZone | enableZone | disableZone | setDemand | clearZone | queueOrder | abortOrder
  | openGroup | tripAll | clearTally =>
    simp only [answer, answerSetFrame, answerConfigZone, answerEnableZone, answerDisableZone, answerSetDemand,
      answerClearZone, answerQueueOrder, answerAbortOrder, abortBehind, answerOpenGroup, answerTripAll,
      answerClearTally]
    (repeat' split) <;> simp [State.grant, State.deny, State.grantDemand, State.grantGroup, setDemand_pending,
      appendOrder_pending]
  | _ => rfl

/-! ### Request frames and bytes (R176 to R182) -/

theorem execute_pending (num : BitVec 4) (type : Byte) (p : Parsed) (s : State) :
    (execute num type p s).pending = s.pending := by
  unfold execute
  split
  · simp
  · split <;> simp [answer_pending]

theorem serveFrame_pending (num : BitVec 4) (ack type : Byte) (p : Parsed) (s : State) :
    (serveFrame num ack type p s).pending = s.pending := by
  unfold serveFrame handleRequest
  simp only [txChoose_keeps]
  split
  · simp
  · split <;> simp [execute_pending]

theorem frameComplete_pending (bytes : List Byte) (s : State) : (frameComplete bytes s).pending = s.pending := by
  unfold frameComplete validFrame
  split
  · split
    · exact serveFrame_pending _ _ _ _ s
    · rfl
  · rfl

theorem goodByte_pending (b : Byte) (s : State) : (goodByte b s).pending = s.pending := by
  unfold goodByte
  dsimp only
  split
  · split <;> rfl
  · split <;> rfl
  · rfl
  · split
    · exact frameComplete_pending _ _
    · rfl

theorem receiveByte_pending (b : Byte) (ok : Bool) (s : State) : (receiveByte b ok s).pending = s.pending := by
  unfold receiveByte
  split
  · exact goodByte_pending b s
  · split <;> rfl

theorem gapExpiry_pending (s : State) : (gapExpiry s).pending = s.pending := by
  unfold gapExpiry
  split <;> rfl

theorem byteAt_pending (t : Nat) (b : Byte) (ok : Bool) (s : State) : (byteAt t b ok s).pending = s.pending := by
  refine (receiveByte_pending b ok _).trans ?_
  split
  · exact gapExpiry_pending s
  · rfl

/-! ### The transmitter and its timer (R182, R184, R185) -/

theorem frameEnds_pending (s : State) : (frameEnds s).pending = s.pending := by
  unfold frameEnds
  split
  · rfl
  · simp
  · dsimp only
    split <;> simp

theorem retransmitExpiry_pending (s : State) : (retransmitExpiry s).pending = s.pending := by
  unfold retransmitExpiry
  split <;> simp

/-! ### Mains (R2 to R12) -/

theorem expireWindow_pending (order : List Taker) (s : State) : (expireWindow order s).pending = s.pending := by
  unfold expireWindow
  split
  · dsimp only
    split <;> simp [syntheticCrossing, crossLocked]
  · rfl

theorem settleWindow_pending (order : List Taker) (time : Nat) (s : State) :
    (settleWindow order time s).pending = s.pending := by
  have expire : ∀ u : State, (if u.windowOver time then expireWindow order u else u).pending = u.pending :=
    fun u => by split <;> simp [expireWindow_pending]
  exact (expire _).trans (expire s)

theorem searchEdge_pending (order : List Taker) (i : Nat) (s : State) :
    (searchEdge order i s).pending = s.pending := by
  unfold searchEdge
  dsimp only
  split <;> simp [lockMains]

theorem classedEdge_pending (order : List Taker) (ref : Nat) (s : State) :
    (classedEdge order ref s).pending = s.pending := by
  unfold classedEdge
  dsimp only
  split
  · rfl
  · split
    · split
      · simp [realCrossing, crossLocked]
      · exact searchEdge_pending order _ s
    · split <;> rfl

theorem edge_pending (order : List Taker) (s : State) : (edge order s).pending = s.pending := by
  unfold edge
  split
  · rfl
  · split
    · rfl
    · exact classedEdge_pending order _ s

theorem edgeAt_pending (order : List Taker) (time : Nat) (s : State) : (edgeAt order time s).pending = s.pending :=
  (edge_pending order _).trans (settleWindow_pending order _ s)

/-! ### Contactor timers (R129, R140) -/

theorem openExpired_pending (g : GroupId) (s : State) : (openExpired g s).pending = s.pending := by
  unfold openExpired
  split <;> simp

theorem verifyExpired_pending (g : GroupId) (s : State) : (verifyExpired g s).pending = s.pending := by
  unfold verifyExpired
  split <;> simp

/-! ### Every command -/

/-- Log entry 1: no command faults or is refused. -/
theorem exec_total (i : Instr) (s : State) : ∃ t, exec i s = .next t := by
  cases i <;> exact ⟨_, rfl⟩

/-- Every command leaves the commands that wait behind it, in their order; a reset does too. -/
theorem exec_keeps_pending (i : Instr) {s t : State} (h : exec i s = .next t) : t.pending = s.pending := by
  have request : ∀ {hd : Header} {r : Request}, i.requestOf = some (hd, r) → t.pending = s.pending := by
    intro hd r hreq
    rw [exec_of_requestOf s hreq] at h
    cases h
    exact serveFrame_pending _ _ _ _ _
  cases i with
  | powerOn | pinReset =>
    cases h
    simp [applyPower, applyPin, State.blank]
  | zxEdge time order =>
    cases h
    simpa using edgeAt_pending order time s
  | windowExpiry order =>
    cases h
    split
    · simpa using expireWindow_pending order s
    · rfl
  | midHalfCyclePoint =>
    cases h
    split
    · split <;> simp
    · rfl
  | isenseReading =>
    cases h
    simp
  | auxChange | stopChange =>
    cases h
    split <;> simp
  | closeTimerExpiry g | releaseDeadlineExpiry g | openTimerExpiry g | verifyTimerExpiry g
  | stuckContactTimerExpiry g =>
    cases h
    exact onExpiry_keeps State.pending g _ (fun u => by simp [openExpired_pending, verifyExpired_pending])
      (fun _ _ => rfl) s
  | rxByte time byte ok =>
    cases h
    exact byteAt_pending time byte ok s
  | byteGapTimeout =>
    cases h
    exact gapExpiry_pending s
  | txFrameEnd time =>
    cases h
    exact frameEnds_pending (s.atTime time)
  | retransmitTimerExpiry =>
    cases h
    exact retransmitExpiry_pending s
  | rawInputChange time line level =>
    cases h
    cases line <;> rfl
  | _ => exact request rfl

/-! ### The step -/

theorem step_of_idle {s : State} (h : s.pending = []) : step s = .next s := by
  unfold step
  rw [h]

/-- Settles O1: `exec_total` gives the next state, `exec_keeps_pending` its queue, and an empty queue idles. -/
theorem stepRunsTheFrontCommand : Obligations.StepRunsTheFrontCommand := by
  refine ⟨fun c cs s => ⟨rfl, ?_⟩, fun s hidle => step_of_idle hidle⟩
  obtain ⟨t, ht⟩ := exec_total c { s with pending := cs }
  exact ⟨t, ht, exec_keeps_pending c ht⟩

end Sys2Proof.Machine
end
